-- ==== Sys2Proof/Word.lean ====
section
/-! DEFINITION. The word types of the HB240: the byte of its three ports and the 16-bit codes of items and totes
(00_scope.md, Conventions). Quantities that are exact integers (times, units, pence, grams, counters) are `Nat`. -/

namespace Sys2Proof

/-- One byte of the bench port, the reader port, the station line or the settings memory. -/
abbrev Byte := BitVec 8

/-- An item code; 0x0000 means "no item" (00_scope.md, Items and totes). -/
abbrev ItemCode := BitVec 16

/-- A tote ID (00_scope.md, Items and totes). -/
abbrev ToteId := BitVec 16

/-- A fill serial; it wraps from 255 to 0 (00_scope.md, Items and totes). -/
abbrev Serial := BitVec 8

/-- A bay number, 0..7 (00_scope.md, Station, bay and line numbering). -/
abbrev BayNo := Fin 8

end Sys2Proof
end

