-- ==== Sys2Proof/Syntax.lean ====
section
/-! DEFINITION. The commands of the block: one constructor for each row of spec/opcode_table.json, in the table's
order. An operand is what arrives from outside with the command: the bytes of a transaction, the level of a pin the
part samples in that step, or the name of the timer that expires. -/

namespace Sys2Proof

/-- One entry of a DEMAND payload as R59 and R184 lay it out: six bytes. -/
structure DemandEntry where
  /-- High nibble of the bay-and-line byte. -/
  bay : BitVec 4
  /-- Low nibble of the bay-and-line byte. -/
  line : BitVec 4
  item : ItemCode
  units : Byte
  score : BitVec 16
deriving DecidableEq, Repr

/-- A character on RDRX (R95): after the start bit, eight data bits sent least significant first, so the k-th received
is bit k of `data`, and the level of the stop bit, low for a framing error. -/
structure ReaderChar where
  data : Byte
  stop : Bool
deriving DecidableEq, Repr

/-- What RDRX brings (R95). -/
inductive ReaderEvent where
  /-- RDRX has been idle, with no character, for 2 ms. -/
  | idle
  | character (c : ReaderChar)
deriving DecidableEq, Repr

/-- The commands. `tx` is, for a request, the bytes the bench computer sends after the request code: the parameter
length byte and the bytes that follow it (R173, R185). -/
inductive Instr where
  /-- HARD_RESET (R161): power-on ends or RESET is released; the straps as sampled then (R160). -/
  | hardReset (straps : BitVec 5)
  /-- SETTINGS_LOAD (R163): the read access ends with these 16 bytes. -/
  | settingsLoad (record : Vector Byte 16)
  /-- SETTINGS_LOAD_TIMEOUT (R162). -/
  | settingsLoadTimeout
  /-- SETTLE_EXPIRY (R164). -/
  | settleExpiry
  /-- READ_IDENTITY (R177). -/
  | readIdentity (tx : List Byte)
  /-- READ_STATUS (R177). -/
  | readStatus (tx : List Byte)
  /-- READ_CLOCK (R177). -/
  | readClock (tx : List Byte)
  /-- READ_EVENTS (R182). -/
  | readEvents (tx : List Byte)
  /-- SET_EVENT_ENABLES (R181). -/
  | setEventEnables (tx : List Byte)
  /-- LOAD_ITEMS (R3). -/
  | loadItems (tx : List Byte)
  /-- REMOVE_ITEM (R5). -/
  | removeItem (tx : List Byte)
  /-- OPEN_BUILD (R15). -/
  | openBuild (tx : List Byte)
  /-- CANCEL_BUILD (R20). -/
  | cancelBuild (tx : List Byte)
  /-- SEAL_BUILD (R21). -/
  | sealBuild (tx : List Byte)
  /-- HOLD_BAYS (R34). -/
  | holdBays (tx : List Byte)
  /-- RELEASE_BAYS (R35). -/
  | releaseBays (tx : List Byte)
  /-- READ_BAY (R178). -/
  | readBay (tx : List Byte)
  /-- CONFIRM_PICK (R128). -/
  | confirmPick (tx : List Byte)
  /-- RETURN_TOTE (R132). -/
  | returnTote (tx : List Byte)
  /-- READ_LANE (R134), with the level of LANE_FULL as the request is taken (R123). -/
  | readLane (laneFull : Bool) (tx : List Byte)
  /-- READ_DEVIATIONS (R155). -/
  | readDeviations (tx : List Byte)
  /-- CLEAR_DEVIATIONS (R156). -/
  | clearDeviations (tx : List Byte)
  /-- SET_MODE (R166). -/
  | setMode (tx : List Byte)
  /-- READ_PEERS (R179). -/
  | readPeers (tx : List Byte)
  /-- READ_LINE_COUNTERS (R179). -/
  | readLineCounters (tx : List Byte)
  /-- READ_SETTINGS (R171). -/
  | readSettings (tx : List Byte)
  /-- WRITE_SETTINGS (R170). -/
  | writeSettings (tx : List Byte)
  /-- WRITE_ACCESS_END (R170): the 8-byte write access under way completes. -/
  | writeAccessEnd
  /-- WRITE_ACCESS_TIMEOUT (R170): the write access under way is not complete within 25 ms. -/
  | writeAccessTimeout
  /-- RESTART (R169), with the straps as sampled by the start it begins (R160). -/
  | restart (straps : BitVec 5) (tx : List Byte)
  /-- FETCH_TRANSACTION (R173): first byte 0x00, then this many bytes clocked before CS rises. -/
  | fetchTransaction (clocked : Nat)
  /-- TAG_READ (R95, R96): what RDRX brought since the reader command before this one, then the character with which a
  frame is complete, and the level of LANE_FULL at that moment (R123, log 33). -/
  | tagRead (earlier : List ReaderEvent) (last : ReaderChar) (laneFull : Bool)
  /-- SHORT_READER_FRAME (R95): RDRX falls idle for 2 ms before a frame's eighth byte or after an overlong tail. -/
  | shortReaderFrame
  /-- ARRIVAL (R121): LANE_ARRIVE rises after it stood low for this many microseconds. -/
  | arrival (lowMicros : Nat)
  /-- DIVERT_PULSE_END (R119): 50 ms have passed since the latest divert. -/
  | divertPulseEnd
  /-- MERGE_PULSE_END (R120): 50 ms have passed since the latest merge. -/
  | mergePulseEnd
  /-- DIVERT_CONFIRM_EXPIRY (R126) of the entry of this tote. -/
  | divertConfirmExpiry (tote : ToteId)
  /-- DWELL_EXPIRY (R133) of the entry of this tote. -/
  | dwellExpiry (tote : ToteId)
  /-- CHILL_WINDOW_EXPIRY (R31, R32) of this bay. -/
  | chillWindowExpiry (bay : BayNo)
  /-- DEADLINE_EXPIRY (R37) of this bay. -/
  | deadlineExpiry (bay : BayNo)
  /-- SUBSTITUTE_WAIT_EXPIRY (R138) of this line. -/
  | substituteWaitExpiry (bay : BayNo) (line : Fin 12)
  /-- SILENCE_EXPIRY (R79) of this station number. -/
  | silenceExpiry (peer : Nat)
  /-- REFRESH_EXPIRY (R89). -/
  | refreshExpiry
  /-- ATTEMPT (R63): the Line Interface looks at the line to begin an attempt of the head notice: idle, 40 bit times
  without a change of level within the time it has been running (R56, R74), or busy. -/
  | attempt (lineIdle : Bool)
  /-- NOTICE_COMPLETE (R65): every cell of the frame has been read back as sent. -/
  | noticeComplete
  /-- COLLISION (R66): a cell is read back other than sent. -/
  | collision
  /-- JAM_END (R66): the last jam cell has been sent. -/
  | jamEnd
  /-- BACKOFF_END (R66): r × 128 bit times have passed since LDE fell. -/
  | backoffEnd
  /-- BAD_FRAME (R68): the levels of LRXD in each half bit time of a received frame that fails a check, from its first
  change of level until the line is idle. -/
  | badFrame (levels : List Bool)
  /-- JOIN_NOTICE (R80): a good JOIN is received. -/
  | joinNotice (sender sequence laneCapacity bayCount revision : Byte)
  /-- DEMAND_NOTICE (R82): a good DEMAND is received. -/
  | demandNotice (sender sequence : Byte) (entries : List DemandEntry)
  /-- DRAW_NOTICE (R103): a good DRAW is received. -/
  | drawNotice (sender sequence : Byte) (tote : ToteId) (serial : Serial) (item : ItemCode) (units remaining : Byte)
  /-- TALLY_NOTICE (R104): a good TALLY is received. -/
  | tallyNotice (sender sequence : Byte) (tote : ToteId) (serial : Serial) (item : ItemCode) (remaining : Byte)
  /-- CLOCK_TICK (R159): a tenth of a second has passed. -/
  | clockTick
  /-- RESET_LOW (R161): RESET goes low or power is lost. -/
  | resetLow
  /-- UNKNOWN_REQUEST_CODE (R175): a request transaction with this first byte. -/
  | unknownRequestCode (code : Byte) (tx : List Byte)
deriving DecidableEq, Repr

end Sys2Proof
end

