-- ==== Sys2Proof/Machine/Records.lean ====
section
/-! DEFINITION. The records the blocks of the HB240 hold, one structure for each record of the spec, with the
spec's field names. -/

namespace Sys2Proof.Machine

/-- The station mode (chapter 10). -/
inductive Mode where
  | loading | settling | active | closing | quiet | muted
deriving DecidableEq, Repr

/-- Mode Control (R160, R164 to R168). -/
structure ModeControl where
  mode : Mode
  /-- Strap value + 1 (R160). -/
  station : Nat
  /-- Present while a settle expiry is pending (R164, R168). -/
  settleExpiry : Option Nat
deriving DecidableEq, Repr

/-- The nine settings, in the units of R162. -/
structure Settings where
  laneCapacity : Nat
  drawLimit : Nat
  /-- Demand refresh interval, seconds. -/
  refresh : Nat
  silenceMultiplier : Nat
  /-- Substitute wait limit, seconds. -/
  substituteWait : Nat
  /-- Chill window, seconds. -/
  chillWindow : Nat
  /-- Divert confirm limit, seconds. -/
  confirmLimit : Nat
  /-- Lane dwell limit, seconds. -/
  dwellLimit : Nat
  errorThreshold : Nat
deriving DecidableEq, Repr

/-- The outcome of the settings load (R163). -/
inductive LoadOutcome where
  | loaded | clamped | defaulted
deriving DecidableEq, Repr

/-- The loader state (R161, R170). -/
inductive LoaderState where
  | idle | loading | writing
deriving DecidableEq, Repr

/-- One write access of the settings-memory master (R170): device address, memory address, data bytes. -/
structure WriteAccess where
  device : BitVec 7
  address : Byte
  data : List Byte
deriving DecidableEq, Repr

/-- The settings-memory master (R161, R162, R170). -/
inductive SettingsBus where
  /-- SCL and SDA are released. -/
  | released
  /-- The read access: device address, memory address, number of bytes. -/
  | reading (device : BitVec 7) (address : Byte) (count : Nat)
  /-- A write access is under way; the second access of the record still to follow, if any. -/
  | writing (access : WriteAccess) (following : Option WriteAccess)
deriving DecidableEq, Repr

/-- The Settings Loader. -/
structure Loader where
  active : Settings
  outcome : LoadOutcome
  state : LoaderState
  bus : SettingsBus
deriving DecidableEq, Repr

/-- An item record (R1). -/
structure ItemRecord where
  code : ItemCode
  /-- Unit value, pence. -/
  value : Nat
  /-- Unit weight, grams. -/
  weight : Nat
  /-- The chill flag: chilled, or ambient. -/
  chilled : Bool
deriving DecidableEq, Repr

/-- A wait accumulator (R47): its value is `stored` while stopped, and runs on from `runStart` while running. -/
structure Wait where
  stored : Nat
  runStart : Option Nat
deriving DecidableEq, Repr

/-- A line record in use (R7, R137). Its owning bay and line index are its place in the bay's line list. -/
structure Line where
  primary : ItemCode
  substitutes : List ItemCode
  /-- Active position: 0 the primary, 1..3 the substitute in that place. -/
  position : Nat
  ordered : Nat
  placed : Nat
  pinned : Nat
  placedValue : Nat
  placedWeight : Nat
  wait : Wait
  exhausted : Bool
  trialMark : Bool
deriving DecidableEq, Repr

/-- The working state of a bay that is not EMPTY: the state itself, or the resume state while HELD. -/
inductive WorkState where
  | gathering | chilling | ready
deriving DecidableEq, Repr

/-- A bay record not in EMPTY (R11). The bay state is HELD while `held`, and `work` otherwise; the resume state is
`work` while `held`, and absent otherwise (R23). -/
structure Build where
  work : WorkState
  held : Bool
  orderRef : BitVec 32
  deadline : Nat
  /-- The deadline expiry is still to be taken (R37). -/
  deadlinePending : Bool
  floor : Nat
  ceiling : Nat
  lines : List Line
  /-- Total ordered units T (R12). -/
  total : Nat
  chillExpiry : Option Nat
  deadlineReported : Bool
  lapse : Bool
deriving DecidableEq, Repr

/-- The payload of a notice (R59), with its kind. -/
inductive Payload where
  | join (laneCapacity bayCount revision : Byte)
  | demand (entries : List DemandEntry)
  | draw (tote : ToteId) (serial : Serial) (item : ItemCode) (units remaining : Byte)
  | tally (tote : ToteId) (serial : Serial) (item : ItemCode) (remaining : Byte)
deriving DecidableEq, Repr

/-- One place of the outgoing notice queue (R60). `payload` is absent for a DEMAND marker; the notice is in flight
exactly while `attempts` is above 0. -/
structure Notice where
  payload : Option Payload
  sequence : Option Byte
  attempts : Nat
deriving DecidableEq, Repr

/-- The transmitter and its attempt state (R63 to R67). -/
inductive TxPhase where
  /-- No attempt under way and no backoff running. -/
  | waiting
  /-- An attempt is under way, sending this frame. -/
  | sending (frame : List Byte)
  /-- The jam after a collision is being sent. -/
  | jamming
  /-- Backoff of this many slots. -/
  | backoff (slots : Nat)
deriving DecidableEq, Repr

/-- LTXD (R55). -/
inductive TxLevel where
  /-- Standing high, LDE low. -/
  | standingHigh
  /-- Carrying the cells of the frame or of the jam. -/
  | cells
deriving DecidableEq, Repr

/-- The eight line counters (R71). -/
structure LineCounters where
  sent : Nat
  good : Nat
  fragments : Nat
  crcBad : Nat
  malformed : Nat
  collisions : Nat
  dropped : Nat
  gaps : Nat
deriving DecidableEq, Repr

/-- The random source (R66, R74): what it was seeded with, and the draws made since. -/
structure RandomSource where
  station : Nat
  clock : Nat
  draws : Nat
deriving DecidableEq, Repr

/-- The Line Interface (chapter 4). -/
structure LineInterface where
  queue : List Notice
  seq : Byte
  phase : TxPhase
  lde : Bool
  ltxd : TxLevel
  /-- The line has been seen idle, 40 bit times without a change of level, since the Line Interface started; until then
  it is taken to be busy (R74). -/
  idleSeen : Bool
  counters : LineCounters
  /-- The degraded-reported mark (R72). -/
  degraded : Bool
  rng : RandomSource
deriving DecidableEq, Repr

/-- The state of a peer (R76). -/
inductive PeerState where
  | absent | present | silent
deriving DecidableEq, Repr

/-- A roster record (R76). Entries stored is computed from the heard-demand table (R81). -/
structure PeerRecord where
  state : PeerState
  lastSequence : Option Byte
  lastHeard : Option Nat
  heard : Nat
  gaps : Nat
deriving DecidableEq, Repr

/-- An entry of the heard-demand table (R81). -/
structure HeardEntry where
  peer : Nat
  entry : DemandEntry
  timeHeard : Nat
deriving DecidableEq, Repr

/-- An entry of the last-sent demand list (R88), and of the fresh set of R91. -/
structure Wanted where
  bay : Nat
  line : Nat
  item : ItemCode
  units : Nat
deriving DecidableEq, Repr

/-- The Peer Tracker (chapter 5). -/
structure PeerTracker where
  roster : Vector PeerRecord 32
  heard : List HeardEntry
  lastSent : List Wanted
  overflow : Nat
  refreshExpiry : Option Nat
deriving DecidableEq, Repr

/-- An entry of the tote table (R98). -/
structure ToteEntry where
  tote : ToteId
  serial : Serial
  item : ItemCode
  remaining : Nat
  uncertain : Bool
  touched : Nat
deriving DecidableEq, Repr

/-- The reader port decoder (R95), with its one frame in assembly. -/
inductive ReaderDecoder where
  /-- Before the start, and after a Restart: characters are not decoded. -/
  | stopped
  /-- Started, RDRX not yet seen idle for 2 ms: bytes belong to no frame. -/
  | waiting
  /-- The characters of the frame in assembly, up to seven; none while RDRX is idle. -/
  | assembling (frame : List ReaderChar)
  /-- The eighth byte has come and RDRX has not been idle since; `tail` once a byte has followed it. -/
  | taken (tail : Bool)
deriving DecidableEq, Repr

/-- The Tote Tracker: its reader port decoder (R95), its reader counters (R97) and the tote table (R98). -/
structure ToteTracker where
  decoder : ReaderDecoder
  good : Nat
  malformed : Nat
  duplicate : Nat
  table : List ToteEntry
deriving DecidableEq, Repr

/-- An allocation of a lane entry (R118). -/
structure Allocation where
  bay : BayNo
  line : Nat
  granted : Nat
deriving DecidableEq, Repr

/-- The state of a lane entry, AT_BENCH with its arrival time (R118). -/
inductive LaneState where
  | inbound
  | atBench (arrival : Nat)
deriving DecidableEq, Repr

/-- An entry of the lane queue (R118). -/
structure LaneEntry where
  tote : ToteId
  serial : Serial
  item : ItemCode
  drawn : Nat
  allocations : List Allocation
  state : LaneState
  divertTime : Nat
  stale : Bool
deriving DecidableEq, Repr

/-- The Lane Controller (chapter 7). -/
structure Lane where
  queue : List LaneEntry
  unexpected : Nat
  divert : Bool
  merge : Bool
deriving DecidableEq, Repr

/-- The six kinds of deviation, each with the fields its kind carries (R151, R152). -/
inductive DeviationKind where
  | substituted (bay : BayNo) (orderRef : BitVec 32) (line : Nat) (fromItem toItem : ItemCode) (remaining : Nat)
  | substituteExhausted (bay : BayNo) (orderRef : BitVec 32) (line : Nat)
  | chillLapse (bay : BayNo) (orderRef : BitVec 32)
  | deadlineMissed (bay : BayNo) (orderRef : BitVec 32)
  | shortTote (tote : ToteId) (item : ItemCode) (drawn taken : Nat)
  | divertMissed (tote : ToteId) (item : ItemCode) (drawn : Nat)
deriving DecidableEq, Repr

/-- A deviation record (R151). -/
structure Deviation where
  number : Nat
  time : Nat
  kind : DeviationKind
deriving DecidableEq, Repr

/-- The Deviation Table (R150). -/
structure DeviationTable where
  records : List Deviation
  sinceClear : Nat
  lastClear : Nat
deriving DecidableEq, Repr

/-- The statuses of R176. -/
inductive Status where
  | ok | accepted | busy | badRequest | badArg | bayState | mode | unknownItem | tableFull | poolFull | inUse
  | pinned | infeasible | noTote
deriving DecidableEq, Repr

/-- A reply: status and output; the output length is the length of the output (R173). -/
structure Reply where
  status : Status
  output : List Byte
deriving DecidableEq, Repr

/-- The port state (R173). -/
inductive PortState where
  | idle | handling
deriving DecidableEq, Repr

/-- The SETTINGS_NOTE cause (R163, R180). -/
inductive NoteCause where
  | none | clamped | defaulted
deriving DecidableEq, Repr

/-- The Bench Port (chapter 11). -/
structure BenchPort where
  state : PortState
  reply : Option Reply
  ready : Bool
  /-- The thirteen event flags, in the positions of R180. -/
  flags : BitVec 13
  cause : NoteCause
  enables : BitVec 13
  attn : Bool
  /-- The bytes the part drove on MISO in the latest transaction, link byte first (the model's record of the pin). -/
  miso : List Byte
deriving DecidableEq, Repr

end Sys2Proof.Machine
end

