-- ==== Sys2Proof/Machine/Limits.lean ====
section
/-! DEFINITION. The sizes, limits and fixed values of the spec, each with its rule. -/

namespace Sys2Proof.Machine

/-- The largest clock value (R159). -/
def clockMax : Nat := 4294967295

/-- The largest value of a 16-bit saturating counter (00_scope.md, Counters). -/
def counterMax : Nat := 65535

/-- Item table places (R1). -/
def itemPlaces : Nat := 256

/-- Line pool records (R6). -/
def poolSize : Nat := 64

/-- Outgoing queue places (R60). -/
def queuePlaces : Nat := 12

/-- Attempts after which a colliding notice is dropped (R66, R67). -/
def maxAttempts : Nat := 8

/-- Heard-demand table places (R81). -/
def heardPlaces : Nat := 256

/-- Entries in a DEMAND notice and in the last-sent list (R59, R87, R88). -/
def demandPlaces : Nat := 16

/-- Tote table places (R98). -/
def totePlaces : Nat := 128

/-- Allocations of one lane entry (R113). -/
def maxAllocations : Nat := 8

/-- Deviation records held (R150). -/
def deviationPlaces : Nat := 64

/-- The part identifier (R177). -/
def partIdentifier : Nat := 0x0240

/-- The part revision (R177). -/
def partRevision : Nat := 1

/-- Low time, in microseconds, that makes a rise of LANE_ARRIVE an arrival (R121: 10 ms). -/
def arrivalLowMicros : Nat := 10000

/-- The bays in ascending order. -/
def allBays : List BayNo := [0, 1, 2, 3, 4, 5, 6, 7]

/-- Saturating increase of a 16-bit counter (00_scope.md, Counters). -/
def satAdd (n k : Nat) : Nat := min (n + k) counterMax

/-- A clock value limited to the largest one (R159). -/
def limitClock (t : Nat) : Nat := min t clockMax

/-- The default settings (R162). -/
def defaultSettings : Settings :=
  { laneCapacity := 3, drawLimit := 12, refresh := 2, silenceMultiplier := 4, substituteWait := 300,
    chillWindow := 600, confirmLimit := 4, dwellLimit := 180, errorThreshold := 16 }

/-- The settle time, in seconds (R163). -/
def Settings.settleTime (g : Settings) : Nat := 2 * g.refresh

/-- The silence limit, in seconds (R79, R163). -/
def Settings.silenceLimit (g : Settings) : Nat := g.silenceMultiplier * g.refresh

/-- The read access of the settings load (R162): device 0x50, memory address 0x00, 16 bytes. -/
def loadAccess : SettingsBus := .reading 0x50 0x00 16

/-- The roster record of a peer of which nothing has been heard (R76). -/
def PeerRecord.unheard : PeerRecord :=
  { state := .absent, lastSequence := none, lastHeard := none, heard := 0, gaps := 0 }

/-- All eight line counters at 0 (R71). -/
def LineCounters.zero : LineCounters :=
  { sent := 0, good := 0, fragments := 0, crcBad := 0, malformed := 0, collisions := 0, dropped := 0, gaps := 0 }

/-- The Line Interface after a hard reset and after a Restart (R73): stopped, so no idle line seen since a start (R74). The random source has no reset value in the
spec: DESIGN CHOICE, log 9; it is seeded before its first use (R74). -/
def LineInterface.stopped : LineInterface :=
  { queue := [], seq := 0, phase := .waiting, lde := false, ltxd := .standingHigh, idleSeen := false,
    counters := LineCounters.zero, degraded := false, rng := { station := 0, clock := 0, draws := 0 } }

/-- The Peer Tracker after a hard reset and after a Restart (R76, R81, R85, R88, R89). -/
def PeerTracker.cleared : PeerTracker :=
  { roster := Vector.replicate 32 PeerRecord.unheard, heard := [], lastSent := [], overflow := 0,
    refreshExpiry := none }

/-- The Tote Tracker after a hard reset and after a Restart (R95, R97, R98): no frame in assembly. -/
def ToteTracker.cleared : ToteTracker :=
  { decoder := .stopped, good := 0, malformed := 0, duplicate := 0, table := [] }

/-- Bytes of a reader frame (R95). -/
def readerFrameBytes : Nat := 8

/-- The Lane Controller after a hard reset and after a Restart (R118, R119, R120, R122). -/
def Lane.cleared : Lane := { queue := [], unexpected := 0, divert := false, merge := false }

/-- The Deviation Table after a hard reset (R150). -/
def DeviationTable.cleared : DeviationTable := { records := [], sinceClear := 0, lastClear := 0 }

/-- The Bench Port after a hard reset (chapter 11). The MISO record is the model's own: DESIGN CHOICE, log 19. -/
def BenchPort.cleared : BenchPort :=
  { state := .idle, reply := none, ready := false, flags := 0, cause := .none, enables := 0, attn := false,
    miso := [] }

/-- Every bay EMPTY (R11, R22). -/
def emptyBays : Vector (Option Build) 8 := Vector.replicate 8 none

/-- The station number of a strap value (R160). -/
def stationOf (straps : BitVec 5) : Nat := straps.toNat + 1

end Sys2Proof.Machine
end

