-- ==== Sys2Proof/Machine/Words.lean ====
section
/-! DEFINITION. Bytes, bits and checks: byte order (most significant byte first, 00_scope.md and R183), bit order
(most significant bit first, R55), the CRC of R58, the sum of R162 and the exclusive-OR of R96. -/

namespace Sys2Proof.Machine

/-- The low `n` bytes of `v`, most significant byte first (R183). -/
def be : (n v : Nat) → List Byte
  | 0, _ => []
  | n + 1, v => BitVec.ofNat 8 (v / 256 ^ n) :: be n v

/-- The number that bytes spell, most significant byte first (R183). -/
def ofBe (bs : List Byte) : Nat := bs.foldl (fun acc b => acc * 256 + b.toNat) 0

/-- The number spelt by `n` bytes at an offset of a block (R183). -/
def fieldAt (block : List Byte) (offset n : Nat) : Nat := ofBe ((block.drop offset).take n)

/-- A 16-bit code at an offset of a block (R183). -/
def codeAt (block : List Byte) (offset : Nat) : BitVec 16 := BitVec.ofNat 16 (fieldAt block offset 2)

/-- The two bytes of a 16-bit code (R183). -/
def code16 (c : BitVec 16) : List Byte := be 2 c.toNat

/-- A presence or flag byte (R183). -/
def boolByte (b : Bool) : Byte := if b then 1 else 0

/-- A flag byte with the named flags in positions 0, 1 and 2 (R183). -/
def flagByte (f0 f1 f2 : Bool) : Byte :=
  (if f0 then 1 else 0) ||| (if f1 then 2 else 0) ||| (if f2 then 4 else 0)

/-- The bits of a byte, most significant bit first (R55). -/
def bitsOfByte (b : Byte) : List Bool :=
  [b.getLsbD 7, b.getLsbD 6, b.getLsbD 5, b.getLsbD 4, b.getLsbD 3, b.getLsbD 2, b.getLsbD 1, b.getLsbD 0]

/-- The bits of bytes in the order they are sent (R55). -/
def bitsOfBytes (bs : List Byte) : List Bool := bs.flatMap bitsOfByte

/-- The byte of eight bits, the first bit the most significant (R55). -/
def byteOfBits (b7 b6 b5 b4 b3 b2 b1 b0 : Bool) : Byte :=
  BitVec.ofNat 8 (b7.toNat * 128 + b6.toNat * 64 + b5.toNat * 32 + b4.toNat * 16 + b3.toNat * 8 + b2.toNat * 4
    + b1.toNat * 2 + b0.toNat)

/-- The whole bytes of a run of bits; bits after the last whole byte are ignored (R68). -/
def bytesOfBits : List Bool → List Byte
  | b7 :: b6 :: b5 :: b4 :: b3 :: b2 :: b1 :: b0 :: rest => byteOfBits b7 b6 b5 b4 b3 b2 b1 b0 :: bytesOfBits rest
  | _ => []

/-- One bit of the CRC of R58: polynomial 0x1021, most significant bit first, no reflection. -/
def crcStep (crc : BitVec 16) (bit : Bool) : BitVec 16 :=
  if crc.msb != bit then (crc <<< 1) ^^^ 0x1021#16 else crc <<< 1

/-- The CRC of R58: initial value 0xFFFF, no final inversion. -/
def crc16 (bs : List Byte) : BitVec 16 := (bitsOfBytes bs).foldl crcStep 0xFFFF#16

/-- The sum modulo 256 (R162, R186). -/
def sumBytes (bs : List Byte) : Byte := bs.foldl (· + ·) 0

/-- The exclusive-OR of bytes (R96). -/
def xorBytes (bs : List Byte) : Byte := bs.foldl (· ^^^ ·) 0

/-- The levels of LTXD over the cells of some bits: each cell carries the complement of its bit and then the bit
(R55). -/
def cellLevels (bits : List Bool) : List Bool := bits.flatMap fun b => [!b, b]

/-- The bits a receiver decodes from the levels of LRXD in each half bit time of a frame, from its first change of
level on (R68): a cell with a change at its middle is the bit of its second half (R55), and a cell without one ends the
decoded bits. That the cells are counted from the first change is read from R55 and R68 (DEDUCED, log 32). -/
def decodeCells : List Bool → List Bool
  | first :: second :: rest => if first = second then [] else second :: decodeCells rest
  | _ => []

/-- The jam: 32 bit times of alternating 1 and 0 cells (R66). -/
def jamBits : List Bool := (List.replicate 16 [true, false]).flatten

end Sys2Proof.Machine
end

