-- ==== Sys2Proof/Machine/Frame.lean ====
section
/-! DEFINITION. Notice frames: their layout (R57, R59, R184), and the receiver's classification (R68). -/

namespace Sys2Proof.Machine

/-- The start pattern 0xC35A (R57). -/
def startPattern : List Byte := [0xC3, 0x5A]

/-- The kind codes of R59. -/
def Payload.kindCode : Payload → Byte
  | .join _ _ _ => 0x01
  | .demand _ => 0x02
  | .draw _ _ _ _ _ => 0x03
  | .tally _ _ _ _ => 0x04

/-- The six bytes of one DEMAND entry (R184). -/
def entryBytes (e : DemandEntry) : List Byte :=
  (e.bay ++ e.line) :: code16 e.item ++ e.units :: code16 e.score

/-- The payload bytes of a notice (R59, R184). -/
def Payload.bytes : Payload → List Byte
  | .join capacity bays revision => [capacity, bays, revision]
  | .demand entries => BitVec.ofNat 8 entries.length :: entries.flatMap entryBytes
  | .draw tote serial item units remaining => code16 tote ++ serial :: code16 item ++ [units, remaining]
  | .tally tote serial item remaining => code16 tote ++ serial :: code16 item ++ [remaining]

/-- Header and payload of a notice, the bytes its CRC covers (R57, R58). -/
def coveredBytes (sender sequence : Byte) (p : Payload) : List Byte :=
  sender :: p.kindCode :: sequence :: BitVec.ofNat 8 p.bytes.length :: p.bytes

/-- The whole frame of a notice (R57, R58). -/
def frameBytes (sender sequence : Byte) (p : Payload) : List Byte :=
  startPattern ++ coveredBytes sender sequence p ++ code16 (crc16 (coveredBytes sender sequence p))

/-- The bits of a notice's frame, in the order they are sent (R55, R57). -/
def frameBits (sender sequence : Byte) (p : Payload) : List Bool := bitsOfBytes (frameBytes sender sequence p)

/-- The levels of LTXD through a phase of the transmitter, half a cell each (R55, R66); none while nothing is
sent. -/
def TxPhase.levels : TxPhase → List Bool
  | .sending frame => cellLevels (bitsOfBytes frame)
  | .jamming => cellLevels jamBits
  | .waiting => []
  | .backoff _ => []

/-- The entries of a DEMAND payload's bytes after its entry count (R184). -/
def parseEntries : List Byte → List DemandEntry
  | bl :: i1 :: i0 :: u :: s1 :: s0 :: rest =>
    { bay := bl.extractLsb' 4 4, line := bl.extractLsb' 0 4, item := i1 ++ i0, units := u, score := s1 ++ s0 }
      :: parseEntries rest
  | _ => []

/-- The payload of a kind code and payload bytes, where their form agrees (R59; check 3 of R68). -/
def parsePayload (kind : Byte) (bs : List Byte) : Option Payload :=
  match kind.toNat, bs with
  | 1, [capacity, bays, revision] => some (.join capacity bays revision)
  | 2, count :: rest =>
    if count.toNat ≤ demandPlaces ∧ rest.length = 6 * count.toNat then some (.demand (parseEntries rest)) else none
  | 3, [t1, t0, serial, i1, i0, units, remaining] => some (.draw (t1 ++ t0) serial (i1 ++ i0) units remaining)
  | 4, [t1, t0, serial, i1, i0, remaining] => some (.tally (t1 ++ t0) serial (i1 ++ i0) remaining)
  | _, _ => none

/-- A sender number a good notice may carry (R68, check 3). -/
def goodSender (sender : Byte) : Bool := 1 ≤ sender.toNat && sender.toNat ≤ 32

/-- What the receiver makes of a frame (R68). -/
inductive FrameClass where
  | fragment | crcBad | malformed
  | good (sender sequence : Byte) (payload : Payload)
deriving DecidableEq, Repr

/-- Check 3 of R68, over header and payload with the CRC taken off. -/
def classifyCovered : List Byte → FrameClass
  | sender :: kind :: sequence :: len :: payload =>
    if goodSender sender = true ∧ payload.length = len.toNat then
      match parsePayload kind payload with
      | some p => .good sender sequence p
      | none => .malformed
    else .malformed
  | _ => .malformed

/-- Checks 2 and 3 of R68, over the whole bytes that follow the start pattern. -/
def classifyBytes (bs : List Byte) : FrameClass :=
  if 6 ≤ bs.length ∧ code16 (crc16 (bs.take (bs.length - 2))) = bs.drop (bs.length - 2) then
    classifyCovered (bs.take (bs.length - 2))
  else .crcBad

/-- The classification of a received frame by its decoded bits (R68). -/
def classify (bits : List Bool) : FrameClass :=
  if bits.take 16 = bitsOfBytes startPattern ∧ 48 ≤ bits.length then classifyBytes (bytesOfBits (bits.drop 16))
  else .fragment

/-- A payload whose operands a good notice may carry: at most 16 DEMAND entries (R59). -/
def Payload.wellFormed : Payload → Bool
  | .demand entries => entries.length ≤ demandPlaces
  | _ => true

end Sys2Proof.Machine
end

