-- ==== Sys2Proof/Machine/Operands.lean ====
section
/-! DEFINITION. The operand forms: the parameter blocks of the requests and the checks the Bench Port makes on them
(R175, R185), the settings record (R162, R186) and the tag read (R96, R184); beside each form that is read stands the
writing of it, from the same layout. -/

namespace Sys2Proof.Machine

/-! ## Transactions -/

/-- Checks 2 to 4 of R175 on the bytes that follow a known request code: the parameter block, or the status of the
first check that fails. `rule` says whether the block's length is the one the request requires, `closed` that the mode
is LOADING and the request is not taken in it. -/
def checkRequest (rule : List Byte → Bool) (closed : Bool) (tx : List Byte) : Except Status (List Byte) :=
  match tx with
  | [] => .error .badRequest
  | len :: rest =>
    if rest.length < len.toNat ∨ 250 < len.toNat then .error .badRequest
    else if rule (rest.take len.toNat) = false then .error .badRequest
    else if closed = true then .error .busy
    else .ok (rest.take len.toNat)

/-- A fixed parameter length (R185). -/
def fixedLength (n : Nat) (block : List Byte) : Bool := block.length == n

/-- A length fixed by the count in the block's first byte (R185). -/
def countedLength (per : Nat) (block : List Byte) : Bool :=
  match block with
  | [] => false
  | count :: rest => rest.length == per * count.toNat

/-- The length of an Open Build block, fixed by the line count at offset 12 (R185). -/
def openBuildLength (block : List Byte) : Bool :=
  decide (13 ≤ block.length) && block.length == 13 + 10 * fieldAt block 12 1

/-- The bytes after the request code of a transaction that carries this parameter block whole. -/
def requestBytes (block : List Byte) : List Byte := BitVec.ofNat 8 block.length :: block

/-- The request that a code byte names, as the command its transaction makes (R185); none where the code is not one of
the 24. The straps and the level of LANE_FULL are what the pins show. -/
def requestOf (straps : BitVec 5) (laneFull : Bool) (code : Byte) : Option (List Byte → Instr) :=
  match code.toNat with
  | 0x01 => some .readIdentity
  | 0x02 => some .readStatus
  | 0x03 => some .readClock
  | 0x04 => some .readEvents
  | 0x05 => some .setEventEnables
  | 0x10 => some .loadItems
  | 0x11 => some .removeItem
  | 0x12 => some .openBuild
  | 0x13 => some .cancelBuild
  | 0x14 => some .sealBuild
  | 0x15 => some .holdBays
  | 0x16 => some .releaseBays
  | 0x17 => some .readBay
  | 0x20 => some .confirmPick
  | 0x21 => some .returnTote
  | 0x22 => some (.readLane laneFull)
  | 0x30 => some .readDeviations
  | 0x31 => some .clearDeviations
  | 0x40 => some .setMode
  | 0x41 => some .readPeers
  | 0x42 => some .readLineCounters
  | 0x43 => some .readSettings
  | 0x44 => some .writeSettings
  | 0x45 => some (.restart straps)
  | _ => none

/-- The code is one of the 24 (R185). -/
def isRequestCode (code : Byte) : Bool := (requestOf 0 false code).isSome

/-- The command of a bench port transaction by its first byte (R173, R175, R185): 0x00 fetches, a request code makes its
request, and any other is unknown. -/
def transactionCommand (straps : BitVec 5) (laneFull : Bool) (code : Byte) (tx : List Byte) : Instr :=
  if code = 0x00 then .fetchTransaction tx.length
  else
    match requestOf straps laneFull code with
    | some request => request tx
    | none => .unknownRequestCode code tx

/-! ## Load Items -/

/-- An item record as Load Items carries it, its chill byte unchecked (R3, R185). -/
structure RawItem where
  code : ItemCode
  value : Nat
  weight : Nat
  chill : Byte
deriving DecidableEq, Repr

/-- The seven bytes of an item record (R185). -/
def RawItem.bytes (r : RawItem) : List Byte := code16 r.code ++ be 2 r.value ++ be 2 r.weight ++ [r.chill]

/-- The item records of a Load Items block after its count (R185). -/
def parseItems : List Byte → List RawItem
  | c1 :: c0 :: v1 :: v0 :: w1 :: w0 :: chill :: rest =>
    { code := c1 ++ c0, value := ofBe [v1, v0], weight := ofBe [w1, w0], chill := chill } :: parseItems rest
  | _ => []

/-- The Load Items block of some records (R185). -/
def loadItemsBlock (rs : List RawItem) : List Byte := BitVec.ofNat 8 rs.length :: rs.flatMap RawItem.bytes

/-! ## Open Build -/

/-- A line entry of Open Build (R13). -/
structure LineParams where
  primary : ItemCode
  ordered : Nat
  substituteCount : Nat
  slot1 : ItemCode
  slot2 : ItemCode
  slot3 : ItemCode
deriving DecidableEq, Repr

/-- The substitutes a line entry gives: its first substitute-count slots (R13). -/
def LineParams.substitutes (p : LineParams) : List ItemCode := [p.slot1, p.slot2, p.slot3].take p.substituteCount

/-- The ten bytes of a line entry (R185). -/
def LineParams.bytes (p : LineParams) : List Byte :=
  code16 p.primary ++ be 1 p.ordered ++ be 1 p.substituteCount ++ code16 p.slot1 ++ code16 p.slot2 ++ code16 p.slot3

/-- The line entries of an Open Build block after its line count (R185). -/
def parseLines : List Byte → List LineParams
  | p1 :: p0 :: ordered :: count :: a1 :: a0 :: b1 :: b0 :: c1 :: c0 :: rest =>
    { primary := p1 ++ p0, ordered := ordered.toNat, substituteCount := count.toNat, slot1 := a1 ++ a0,
      slot2 := b1 ++ b0, slot3 := c1 ++ c0 } :: parseLines rest
  | _ => []

/-- The parameters of Open Build (R13). -/
structure BuildParams where
  bay : Nat
  orderRef : BitVec 32
  deadlineSeconds : Nat
  floor : Nat
  ceiling : Nat
  lines : List LineParams
deriving DecidableEq, Repr

/-- The Open Build block of some parameters (R185). -/
def BuildParams.bytes (p : BuildParams) : List Byte :=
  be 1 p.bay ++ be 4 p.orderRef.toNat ++ be 2 p.deadlineSeconds ++ be 3 p.floor ++ be 2 p.ceiling
    ++ be 1 p.lines.length ++ p.lines.flatMap LineParams.bytes

/-- The parameters of an Open Build block (R185); the line count is the number of line entries, by check 3 of R175. -/
def parseBuild (block : List Byte) : BuildParams :=
  { bay := fieldAt block 0 1
    orderRef := BitVec.ofNat 32 (fieldAt block 1 4)
    deadlineSeconds := fieldAt block 5 2
    floor := fieldAt block 7 3
    ceiling := fieldAt block 10 2
    lines := parseLines (block.drop 13) }

/-! ## Settings -/

/-- The twelve bytes of the nine settings, in the order of offsets 3 to 14 of the settings record (R162, R185). -/
def Settings.bytes (g : Settings) : List Byte :=
  be 1 g.laneCapacity ++ be 1 g.drawLimit ++ be 1 g.refresh ++ be 1 g.silenceMultiplier ++ be 2 g.substituteWait
    ++ be 2 g.chillWindow ++ be 1 g.confirmLimit ++ be 2 g.dwellLimit ++ be 1 g.errorThreshold

/-- The nine settings of twelve bytes (R162, R185). -/
def parseSettings (bs : List Byte) : Settings :=
  { laneCapacity := fieldAt bs 0 1
    drawLimit := fieldAt bs 1 1
    refresh := fieldAt bs 2 1
    silenceMultiplier := fieldAt bs 3 1
    substituteWait := fieldAt bs 4 2
    chillWindow := fieldAt bs 6 2
    confirmLimit := fieldAt bs 8 1
    dwellLimit := fieldAt bs 9 2
    errorThreshold := fieldAt bs 11 1 }

/-- A value clamped to the nearer limit of a range (R163). -/
def clampTo (lo hi v : Nat) : Nat := max lo (min hi v)

/-- Each field clamped on its own to its range (R162, R163). -/
def Settings.clamp (g : Settings) : Settings :=
  { laneCapacity := clampTo 1 4 g.laneCapacity
    drawLimit := clampTo 1 24 g.drawLimit
    refresh := clampTo 1 10 g.refresh
    silenceMultiplier := clampTo 3 10 g.silenceMultiplier
    substituteWait := clampTo 30 1800 g.substituteWait
    chillWindow := clampTo 60 1800 g.chillWindow
    confirmLimit := clampTo 1 20 g.confirmLimit
    dwellLimit := clampTo 30 600 g.dwellLimit
    errorThreshold := clampTo 1 255 g.errorThreshold }

/-- Every field lies in its range (R162, R163, R170). -/
def Settings.inRange (g : Settings) : Bool := g.clamp == g

/-- The first fifteen bytes of a settings record (R162). -/
def recordHead (g : Settings) : List Byte := be 2 0x4842 ++ [1] ++ g.bytes

/-- The settings record: signature, version, the nine fields and their sum (R162, R170, R186). -/
def settingsRecord (g : Settings) : List Byte := recordHead g ++ [sumBytes (recordHead g)]

/-- Signature, version and sum of a record are good (R163). -/
def recordGood (bs : List Byte) : Bool :=
  fieldAt bs 0 2 == 0x4842 && fieldAt bs 2 1 == 1 && sumBytes (bs.take 15) == bs.getD 15 0

/-- The active settings and the load outcome of a read access that ended with these 16 bytes (R163). -/
def formSettings (bs : List Byte) : Settings × LoadOutcome :=
  if recordGood bs = true then
    if (parseSettings (bs.drop 3)).inRange = true then (parseSettings (bs.drop 3), .loaded)
    else ((parseSettings (bs.drop 3)).clamp, .clamped)
  else (defaultSettings, .defaulted)

/-! ## The tag read -/

/-- A tag read's fields (R96, R184). -/
structure Tag where
  tote : ToteId
  item : ItemCode
  serial : Serial
  fill : Byte
deriving DecidableEq, Repr

/-- The eight bytes of a tag read (R184). -/
def Tag.bytes (t : Tag) : List Byte :=
  [0xA5] ++ (code16 t.tote ++ code16 t.item ++ [t.serial, t.fill])
    ++ [xorBytes (code16 t.tote ++ code16 t.item ++ [t.serial, t.fill])]

/-- The tag of the eight bytes of a frame that pass checks 2 to 4 of R96, or none where one fails. -/
def parseTag (frame : List Byte) : Option Tag :=
  match frame with
  | [start, t1, t0, i1, i0, serial, fill, check] =>
    if start = 0xA5 ∧ check = xorBytes [t1, t0, i1, i0, serial, fill] ∧ t1 ++ t0 ≠ 0#16 ∧ i1 ++ i0 ≠ 0#16 then
      some { tote := t1 ++ t0, item := i1 ++ i0, serial := serial, fill := fill }
    else none
  | _ => none

end Sys2Proof.Machine
end

