-- ==== Sys2Proof/Config.lean ====
section
/-! DEFINITION. What the spec leaves open as a value: constants with no body, so that no proof can see one.
`State.draws` is handed to each as its first argument and advanced at each use, so two uses are never forced to
agree. -/

namespace Sys2Proof

/-- The random source behind the backoff draw of R66, applied to the free-value counter, the station number and
clock value it was seeded with (R74), and the number of draws made since. R66 states only the range of the result,
which `Machine.backoffSlots` imposes. Log 8. -/
opaque Config.backoffRandom : (fresh seedStation seedClock index : Nat) → Nat

/-- The rank of a line among the substitute trials that one step starts at once; the spec allows either order
(R138, R148). Applied to the free-value counter and the line's place (bay × 12 + line). Log 10. -/
opaque Config.trialRank : (fresh place : Nat) → Nat

end Sys2Proof
end

