-- ==== Sys2Proof/Machine/State.lean ====
section
/-! DEFINITION. The state of the HB240, block by block, the reasons a step can stop, and the state after a hard
reset. -/

namespace Sys2Proof.Machine

/-- Everything the part holds. Each field is one block of the spec's block overview (00_scope.md). -/
structure State where
  /-- The commands that wait, first in, first out (the host's form of a block). -/
  pending : List Instr
  /-- RESET is held low, or power is off (R161). -/
  resetLow : Bool
  /-- Station Clock: tenths of a second (R159). -/
  clock : Nat
  ctl : ModeControl
  loader : Loader
  /-- Build Store: the item table (R1). -/
  items : List ItemRecord
  /-- Build Store: the bay records, absent while EMPTY, with the line records they own (R6, R11). -/
  bays : Vector (Option Build) 8
  li : LineInterface
  peers : PeerTracker
  totes : ToteTracker
  lane : Lane
  dev : DeviationTable
  port : BenchPort
  /-- The model's own counter of free values used (Config, log 25). -/
  draws : Nat
deriving DecidableEq, Repr

/-- The block has no fault: the spec describes no condition in which it stops, so this type has no constructor. -/
inductive Fault where
deriving DecidableEq, Repr

/-- The only refusal is the host's. -/
inductive Refusal where
  /-- Raised by an arm of `exec` whose command has no meaning yet; no arm of this model raises it. Safe. -/
  | notModelled (mnemonic : String)
deriving DecidableEq, Repr

/-- The state a hard reset leaves with this strap value (R161 steps 1 and 2, and the reset value each chapter gives
for its own state). The load outcome has no reset value in the spec: DESIGN CHOICE, log 6. -/
def State.afterReset (straps : BitVec 5) : State :=
  { pending := [], resetLow := false, clock := 0,
    ctl := { mode := .loading, station := stationOf straps, settleExpiry := none },
    loader := { active := defaultSettings, outcome := .defaulted, state := .loading, bus := loadAccess },
    items := [], bays := emptyBays, li := LineInterface.stopped, peers := PeerTracker.cleared,
    totes := ToteTracker.cleared, lane := Lane.cleared, dev := DeviationTable.cleared, port := BenchPort.cleared,
    draws := 0 }

/-- The machine right after a hard reset, the straps all low (DESIGN CHOICE, log 5). -/
def State.reset : State := State.afterReset 0

end Sys2Proof.Machine
end

