-- ==== Sys2Proof/Machine/Updates.lean ====
section
/-! DEFINITION. The updates of one block of the state: every operation writes State through these. -/

namespace Sys2Proof.Machine

/-- `s` with its `pending` replaced. -/
def State.setPending (s : State) (v : List Instr) : State := { s with pending := v }

/-- `s` with its `resetLow` replaced. -/
def State.setResetLow (s : State) (v : Bool) : State := { s with resetLow := v }

/-- `s` with its `clock` replaced. -/
def State.setClock (s : State) (v : Nat) : State := { s with clock := v }

/-- `s` with its `ctl` replaced. -/
def State.setCtl (s : State) (v : ModeControl) : State := { s with ctl := v }

/-- `s` with its `loader` replaced. -/
def State.setLoader (s : State) (v : Loader) : State := { s with loader := v }

/-- `s` with its `items` replaced. -/
def State.setItems (s : State) (v : List ItemRecord) : State := { s with items := v }

/-- `s` with its `bays` replaced. -/
def State.setBays (s : State) (v : Vector (Option Build) 8) : State := { s with bays := v }

/-- `s` with its `li` replaced. -/
def State.setLi (s : State) (v : LineInterface) : State := { s with li := v }

/-- `s` with its `peers` replaced. -/
def State.setPeers (s : State) (v : PeerTracker) : State := { s with peers := v }

/-- `s` with its `totes` replaced. -/
def State.setTotes (s : State) (v : ToteTracker) : State := { s with totes := v }

/-- `s` with its `lane` replaced. -/
def State.setLane (s : State) (v : Lane) : State := { s with lane := v }

/-- `s` with its `dev` replaced. -/
def State.setDev (s : State) (v : DeviationTable) : State := { s with dev := v }

/-- `s` with its `port` replaced. -/
def State.setPort (s : State) (v : BenchPort) : State := { s with port := v }

/-- `s` with its `draws` replaced. -/
def State.setDraws (s : State) (v : Nat) : State := { s with draws := v }

/-- The build in a bay, absent while the bay is EMPTY (R11). -/
def State.bay (s : State) (b : BayNo) : Option Build := s.bays[b]

/-- `s` with the record of one bay replaced. -/
def State.setBay (s : State) (b : BayNo) (x : Option Build) : State := s.setBays (s.bays.set b x)

end Sys2Proof.Machine
end

