-- ==== Sys2Proof/Machine/Flags.lean ====
section
/-! DEFINITION. The event flags, their enables and ATTN (R180, R181), and the saturating line counters (R71). -/

namespace Sys2Proof.Machine

/-- The thirteen event flags (R180). -/
inductive EventFlag where
  | bayReady | deviation | toteAtBench | laneStale | divertMissed | unexpectedArrival | lineDegraded | stationClash
  | noticeLost | settingsNote | settingsWritten | settingsFailed | modeChanged
deriving DecidableEq, Repr

/-- The position of a flag (R180). -/
def EventFlag.position : EventFlag → Nat
  | .bayReady => 0
  | .deviation => 1
  | .toteAtBench => 2
  | .laneStale => 3
  | .divertMissed => 4
  | .unexpectedArrival => 5
  | .lineDegraded => 6
  | .stationClash => 7
  | .noticeLost => 8
  | .settingsNote => 9
  | .settingsWritten => 10
  | .settingsFailed => 11
  | .modeChanged => 12

/-- The flag word with only this flag set. -/
def EventFlag.mask (f : EventFlag) : BitVec 13 := 1#13 <<< f.position

/-- ATTN as R181 gives it: high while at least one flag is set whose enable is set. -/
def attnLevel (flags enables : BitVec 13) : Bool := flags &&& enables != 0#13

/-- ATTN evaluated afresh (R181). -/
def BenchPort.evalAttn (p : BenchPort) : BenchPort := { p with attn := attnLevel p.flags p.enables }

/-- A flag is set by its cause, whatever its enable, and ATTN is evaluated (R180, R181). -/
def BenchPort.setFlag (p : BenchPort) (f : EventFlag) : BenchPort :=
  BenchPort.evalAttn { p with flags := p.flags ||| f.mask }

/-- Set an event flag (R180, R181). -/
def State.setFlag (s : State) (f : EventFlag) : State := s.setPort (s.port.setFlag f)

/-- Set SETTINGS_NOTE with its cause (R163, R180). -/
def State.setNote (s : State) (c : NoteCause) : State :=
  s.setPort (BenchPort.setFlag { s.port with cause := c } .settingsNote)

/-- Clear every flag and the cause, and evaluate ATTN (R182; R169 for a Restart). -/
def BenchPort.clearFlags (p : BenchPort) : BenchPort :=
  BenchPort.evalAttn { p with flags := 0#13, cause := .none }

/-- Set the enables and evaluate ATTN (R181). -/
def BenchPort.setEnables (p : BenchPort) (m : BitVec 13) : BenchPort := BenchPort.evalAttn { p with enables := m }

/-- `s` with the line counters changed (R71). -/
def State.countLine (s : State) (f : LineCounters → LineCounters) : State :=
  s.setLi { s.li with counters := f s.li.counters }

/-- A frame that passes every check of R68 is counted (R71). -/
def LineCounters.incGood (c : LineCounters) : LineCounters := { c with good := satAdd c.good 1 }

/-- A notice completed without collision is counted (R65, R71). -/
def LineCounters.incSent (c : LineCounters) : LineCounters := { c with sent := satAdd c.sent 1 }

/-- A fragment is counted (R71). -/
def LineCounters.incFragments (c : LineCounters) : LineCounters := { c with fragments := satAdd c.fragments 1 }

/-- A CRC-bad frame is counted (R71). -/
def LineCounters.incCrcBad (c : LineCounters) : LineCounters := { c with crcBad := satAdd c.crcBad 1 }

/-- A malformed frame is counted (R71). -/
def LineCounters.incMalformed (c : LineCounters) : LineCounters := { c with malformed := satAdd c.malformed 1 }

/-- A collision is counted (R66, R71). -/
def LineCounters.incCollisions (c : LineCounters) : LineCounters := { c with collisions := satAdd c.collisions 1 }

/-- Dropped notices are counted (R71). -/
def LineCounters.addDropped (c : LineCounters) (k : Nat) : LineCounters := { c with dropped := satAdd c.dropped k }

/-- A sequence gap is counted (R71, R78). -/
def LineCounters.incGaps (c : LineCounters) : LineCounters := { c with gaps := satAdd c.gaps 1 }

end Sys2Proof.Machine
end

