-- ==== Sys2Proof/Machine/BuildStore.lean ====
section
/-! DEFINITION. The Build Store's structures: items, lines, builds, projection, advertising and the wait
accumulators (chapters 1, 2 and 3). Nothing here writes outside the item table and the bays. -/

namespace Sys2Proof.Machine

/-- The record of an item code, if the table holds one (R1). -/
def findItem (items : List ItemRecord) (code : ItemCode) : Option ItemRecord := items.find? fun r => r.code == code

/-- Unit value as the table stands; 0 for a code the table does not hold, which no line in use names (R2, log 26). -/
def unitValue (items : List ItemRecord) (code : ItemCode) : Nat := ((findItem items code).map (·.value)).getD 0

/-- Unit weight as the table stands (log 26). -/
def unitWeight (items : List ItemRecord) (code : ItemCode) : Nat := ((findItem items code).map (·.weight)).getD 0

/-- The chill flag as the table stands (log 26). -/
def isChilled (items : List ItemRecord) (code : ItemCode) : Bool := ((findItem items code).map (·.chilled)).getD false

/-- A line names an item as its primary or as any of its substitutes (R2). -/
def Line.names (l : Line) (code : ItemCode) : Bool := l.primary == code || l.substitutes.contains code

/-- The lines of a bay, none while it is EMPTY (R6). -/
def State.linesOf (s : State) (b : BayNo) : List Line := ((s.bay b).map (·.lines)).getD []

/-- An item is in use while any line record in use names it (R2). -/
def State.itemInUse (s : State) (code : ItemCode) : Bool :=
  allBays.any fun b => (s.linesOf b).any fun l => l.names code

/-- Line records in use (R6). -/
def State.linesInUse (s : State) : Nat := (allBays.map fun b => (s.linesOf b).length).sum

/-- Free line pool records (R6). -/
def State.poolFree (s : State) : Nat := poolSize - s.linesInUse

/-- The item at a position: 0 names the primary, 1..3 the substitute in that place (R7). -/
def Line.itemAt (l : Line) (p : Nat) : ItemCode := if p = 0 then l.primary else l.substitutes.getD (p - 1) l.primary

/-- Active item (R8). -/
def Line.activeItem (l : Line) : ItemCode := l.itemAt l.position

/-- Remaining units (R8). -/
def Line.remaining (l : Line) : Nat := l.ordered - l.placed

/-- Needed units (R8). -/
def Line.needed (l : Line) : Nat := l.ordered - l.placed - l.pinned

/-- A line is complete when its remaining units are 0 (R8). -/
def Line.complete (l : Line) : Bool := l.remaining == 0

/-- A line is chilled when its primary item is (R8). -/
def Line.chilled (items : List ItemRecord) (l : Line) : Bool := isChilled items l.primary

/-- The value a line adds to the projection (R17). -/
def Line.valueTerm (items : List ItemRecord) (l : Line) : Nat :=
  l.placedValue + l.remaining * unitValue items l.activeItem

/-- The weight a line adds to the projection (R17). -/
def Line.weightTerm (items : List ItemRecord) (l : Line) : Nat :=
  l.placedWeight + l.remaining * unitWeight items l.activeItem

/-- Projected value V of lines (R17). -/
def projectedValue (items : List ItemRecord) (lines : List Line) : Nat := (lines.map (Line.valueTerm items)).sum

/-- Projected weight W of lines (R17). -/
def projectedWeight (items : List ItemRecord) (lines : List Line) : Nat := (lines.map (Line.weightTerm items)).sum

/-- The build's remaining units U (R12). -/
def Build.remaining (bd : Build) : Nat := (bd.lines.map Line.remaining).sum

/-- Total ordered units of lines (R12). -/
def totalOrdered (lines : List Line) : Nat := (lines.map (·.ordered)).sum

/-- The modes in which lines are advertised (R24). -/
def Mode.advertises : Mode → Bool
  | .settling => true
  | .active => true
  | .closing => true
  | .loading => false
  | .quiet => false
  | .muted => false

/-- The bay state offers lines of this chill class (R24). -/
def Build.offers (bd : Build) (chilled : Bool) : Bool :=
  !bd.held &&
    match bd.work with
    | .gathering => !chilled
    | .chilling => chilled
    | .ready => false

/-- A line is advertised (R24). -/
def advertised (mode : Mode) (items : List ItemRecord) (bd : Build) (l : Line) : Bool :=
  mode.advertises && decide (0 < l.needed) && bd.offers (l.chilled items)

/-- The accumulator's value at now (R47). -/
def Wait.value (w : Wait) (now : Nat) : Nat :=
  match w.runStart with
  | none => w.stored
  | some r => w.stored + (now - r)

/-- Start running, or go on running (R47). -/
def Wait.start (w : Wait) (now : Nat) : Wait :=
  match w.runStart with
  | none => { w with runStart := some now }
  | some _ => w

/-- Stop, or stay stopped (R47). -/
def Wait.stop (w : Wait) (now : Nat) : Wait := { stored := w.value now, runStart := none }

/-- Set to 0, keeping the running state (R49). -/
def Wait.zero (w : Wait) (now : Nat) : Wait := { stored := 0, runStart := w.runStart.map fun _ => now }

/-- The wait accumulator's running condition (R48). -/
def running (mode : Mode) (items : List ItemRecord) (bd : Build) (l : Line) : Bool :=
  advertised mode items bd l && l.pinned == 0

/-- The running condition evaluated on one line at now (R48). -/
def evalLine (mode : Mode) (items : List ItemRecord) (now : Nat) (bd : Build) (l : Line) : Line :=
  { l with wait := if running mode items bd l = true then l.wait.start now else l.wait.stop now }

/-- The running condition evaluated on every line of a build (R48). -/
def evalBuild (mode : Mode) (items : List ItemRecord) (now : Nat) (bd : Build) : Build :=
  { bd with lines := bd.lines.map (evalLine mode items now bd) }

/-- The substitute wait limit in tenths (R137). -/
def State.waitLimit (s : State) : Nat := s.loader.active.substituteWait * 10

/-- The substitute wait expiry of an accumulator that runs from a clock value (R138): that value + (the limit − the
stored value). Where R50 would have it fall after the clock's largest value, it falls there, by R159 (log 31). -/
def Wait.expiry (w : Wait) (limit from' : Nat) : Nat := limitClock (from' + (limit - w.stored))

/-- The evaluation starts this line's accumulator at now with its trial mark clear and its expiry not after now, so a
trial is made at once (R50, R138, R159). At the clock's largest value that is so whatever the wait's value: a line whose
stopped wait a Confirm Pick has set to 0 is tried in that step, at once as R159 says and not the full wait limit later
of R50 (DESIGN CHOICE, log 31). -/
def startsTrial (mode : Mode) (items : List ItemRecord) (limit now : Nat) (bd : Build) (l : Line) : Bool :=
  running mode items bd l && l.wait.runStart.isNone && decide (l.wait.expiry limit now ≤ now) && !l.trialMark

/-- The indices of the lines of a bay whose evaluation starts a trial. -/
def State.trialsIn (s : State) (b : BayNo) : List (BayNo × Nat) :=
  match s.bay b with
  | none => []
  | some bd =>
    (bd.lines.zipIdx.filter fun li => startsTrial s.ctl.mode s.items s.waitLimit s.clock bd li.1).map fun li =>
      (b, li.2)

/-- `s` with the build of a bay changed; an EMPTY bay stays as it is. -/
def State.modifyBuild (s : State) (b : BayNo) (f : Build → Build) : State :=
  match s.bay b with
  | none => s
  | some bd => s.setBay b (some (f bd))

/-- `s` with one line changed; a line that is not in use stays as it is. -/
def State.modifyLine (s : State) (b : BayNo) (i : Nat) (f : Line → Line) : State :=
  s.modifyBuild b fun bd => { bd with lines := bd.lines.modify i f }

/-- The running condition evaluated on every line of some bays (R48). -/
def State.evalBays (s : State) (bs : List BayNo) : State :=
  bs.foldl (fun t b => t.modifyBuild b (evalBuild t.ctl.mode t.items t.clock)) s

/-- Add an allocation's granted units to its line's units pinned (R9). -/
def State.pin (s : State) (a : Allocation) : State :=
  s.modifyLine a.bay a.line fun l => { l with pinned := l.pinned + a.granted }

/-- Subtract an allocation's granted units from its line's units pinned (R9). -/
def State.unpin (s : State) (a : Allocation) : State :=
  s.modifyLine a.bay a.line fun l => { l with pinned := l.pinned - a.granted }

/-- The changes a placement makes to one line: steps 1 to 5 of R10, with the trial mark of R137. Set to 0, the wait has
its next expiry a full wait limit later (R50), but for the clock's largest value (R159, log 31). -/
def Line.place (items : List ItemRecord) (now taken granted : Nat) (l : Line) : Line :=
  { l with
    placed := l.placed + taken
    placedValue := l.placedValue + taken * unitValue items l.activeItem
    placedWeight := l.placedWeight + taken * unitWeight items l.activeItem
    pinned := l.pinned - granted
    wait := if 0 < taken then l.wait.zero now else l.wait
    trialMark := if 0 < taken then false else l.trialMark }

/-- Place one allocation's taken count (R10). -/
def State.place (s : State) (at' : Allocation × Nat) : State :=
  s.modifyLine at'.1.bay at'.1.line (Line.place s.items s.clock at'.2 at'.1.granted)

/-- The bays that allocations name, in ascending order (R27). -/
def touchedBays (as : List Allocation) : List BayNo := allBays.filter fun b => as.any fun a => a.bay == b

/-- The state after a completion check (R27; R28 for the resume state of a HELD bay). -/
def completedWork (items : List ItemRecord) (bd : Build) : WorkState :=
  match bd.work with
  | .gathering =>
    if bd.lines.all (fun l => l.chilled items || l.complete) then
      if bd.lines.all Line.complete then .ready else .chilling
    else .gathering
  | .chilling => if bd.lines.all Line.complete then .ready else .chilling
  | .ready => .ready

/-- Units pinned on any line of a build (R20). -/
def Build.hasPins (bd : Build) : Bool := bd.lines.any fun l => decide (0 < l.pinned)

/-- No bay holds a build (R167). -/
def State.allEmpty (s : State) : Bool := allBays.all fun b => (s.bay b).isNone

/-- The number of bays not EMPTY (R177). -/
def State.baysInUse (s : State) : Nat := (allBays.filter fun b => (s.bay b).isSome).length

/-- The new chill window expiry, set or restarted at now (R30, R35). -/
def State.newChillExpiry (s : State) : Nat := limitClock (s.clock + s.loader.active.chillWindow * 10)

end Sys2Proof.Machine
end

