-- ==== Sys2Proof/Machine/Score.lean ====
section
/-! DEFINITION. Urgency scores (R42 to R46) and the ranking key (R51). -/

namespace Sys2Proof.Machine

/-- Stage 1, the slack S in seconds (R42). -/
def slack (deadline now : Nat) : Nat := if now < deadline then (deadline - now) / 10 else 0

/-- Stage 2, the slack term A (R43). -/
def slackTerm (s : Nat) : Nat := 1966080 / (s + 60)

/-- Stage 3, the completion term B (R44). -/
def completionTerm (t u : Nat) : Nat := 16384 * (t - u) / t

/-- Stage 4, the wait term C (R45). -/
def waitTerm (tenths : Nat) : Nat := min (tenths / 10) 255 * 64

/-- Stage 5, the urgency score P = A + B + C (R46). -/
def urgency (deadline now t u tenths : Nat) : Nat :=
  slackTerm (slack deadline now) + completionTerm t u + waitTerm tenths

/-- The score of one of the station's own lines at now (R41). -/
def scoreOf (now : Nat) (bd : Build) (l : Line) : Nat :=
  urgency bd.deadline now bd.total bd.remaining (l.wait.value now)

/-- The ranking key (R51). -/
structure RankKey where
  score : Nat
  station : Nat
  bay : Nat
  line : Nat
deriving DecidableEq, Repr

/-- X ranks above Y (R51): the first comparison that differs decides. -/
def ranksAbove (x y : RankKey) : Bool :=
  if x.score ≠ y.score then decide (y.score < x.score)
  else if x.station ≠ y.station then decide (x.station < y.station)
  else if x.bay ≠ y.bay then decide (x.bay < y.bay)
  else decide (x.line < y.line)

/-- Insert an element before the first one it ranks above. -/
def insertRanked {α : Type} (key : α → RankKey) (x : α) : List α → List α
  | [] => [x]
  | y :: ys => if ranksAbove (key x) (key y) = true then x :: y :: ys else y :: insertRanked key x ys

/-- A list in ranking order, the top first (R51). -/
def rankSort {α : Type} (key : α → RankKey) : List α → List α
  | [] => []
  | x :: xs => insertRanked key x (rankSort key xs)

/-- The ranking key of a heard entry (R51, R53). -/
def HeardEntry.key (h : HeardEntry) : RankKey :=
  { score := h.entry.score.toNat, station := h.peer, bay := h.entry.bay.toNat, line := h.entry.line.toNat }

/-- A line of this station with its place, and its build. -/
structure OwnLine where
  bay : BayNo
  index : Nat
  build : Build
  line : Line
deriving DecidableEq, Repr

/-- The ranking key of an own line at now, with the station's own number (R51, R52). -/
def OwnLine.key (station now : Nat) (o : OwnLine) : RankKey :=
  { score := scoreOf now o.build o.line, station := station, bay := o.bay.val, line := o.index }

/-- The lines of every bay, in bay and line order. -/
def State.ownLines (s : State) : List OwnLine :=
  allBays.flatMap fun b =>
    match s.bay b with
    | none => []
    | some bd => bd.lines.zipIdx.map fun li => { bay := b, index := li.2, build := bd, line := li.1 }

/-- The advertised lines of every bay (R24). -/
def State.advertisedLines (s : State) : List OwnLine :=
  s.ownLines.filter fun o => advertised s.ctl.mode s.items o.build o.line

/-- The fresh set of R91: each advertised line's bay, line index, active item and needed units. -/
def State.freshSet (s : State) : List Wanted :=
  s.advertisedLines.map fun o =>
    { bay := o.bay.val, line := o.index, item := o.line.activeItem, units := o.line.needed }

/-- The entry of a demand notice for an own line at now (R87). -/
def OwnLine.entry (now : Nat) (o : OwnLine) : DemandEntry :=
  { bay := BitVec.ofNat 4 o.bay.val, line := BitVec.ofNat 4 o.index, item := o.line.activeItem,
    units := BitVec.ofNat 8 o.line.needed, score := BitVec.ofNat 16 (scoreOf now o.build o.line) }

/-- The composition of a DEMAND at now: the top 16 advertised lines in rank order (R87). -/
def State.compose (s : State) : List DemandEntry :=
  ((rankSort (OwnLine.key s.ctl.station s.clock) s.advertisedLines).take demandPlaces).map (OwnLine.entry s.clock)

/-- A composed entry as the last-sent list keeps it, without its score (R88). -/
def DemandEntry.sent (e : DemandEntry) : Wanted :=
  { bay := e.bay.toNat, line := e.line.toNat, item := e.item, units := e.units.toNat }

end Sys2Proof.Machine
end

