-- ==== Sys2Proof/Machine/Ops.lean ====
section
/-! DEFINITION. The shared operations: deviation records, offers to the outgoing queue, the change check, the
substitute trial, the evaluation of the wait accumulators, changes of mode, the tote table, and what the lane, the
bays and the peers share. -/

namespace Sys2Proof.Machine

/-! ## Deviation records -/

/-- The number of the next record: records-since-clear after it is counted (R153, steps 2 and 3). -/
def DeviationTable.nextNumber (d : DeviationTable) : Nat := satAdd d.sinceClear 1

/-- The Deviation Table takes a record (R153, steps 1 to 4). -/
def DeviationTable.add (d : DeviationTable) (time : Nat) (kind : DeviationKind) : DeviationTable :=
  { d with
    records := (if deviationPlaces ≤ d.records.length then d.records.drop 1 else d.records)
      ++ [{ number := d.nextNumber, time := time, kind := kind }]
    sinceClear := d.nextNumber }

/-- Record a deviation at now and set DEVIATION (R153). -/
def State.record (s : State) (kind : DeviationKind) : State :=
  (s.setDev (s.dev.add s.clock kind)).setFlag .deviation

/-! ## The outgoing notice queue -/

/-- A DEMAND marker: its payload is not composed yet (R60). A marker is never in flight, since its first attempt
composes it (R63). -/
def Notice.isMarker (n : Notice) : Bool := n.payload.isNone

/-- A notice that has just joined the queue. -/
def Notice.fresh (p : Option Payload) : Notice := { payload := p, sequence := none, attempts := 0 }

/-- `s` with the outgoing queue replaced. -/
def State.setQueue (s : State) (q : List Notice) : State := s.setLi { s.li with queue := q }

/-- A DEMAND marker is offered (R62). -/
def State.offerMarker (s : State) : State :=
  if s.ctl.mode ≠ .muted ∧ s.li.queue.length < queuePlaces ∧ s.li.queue.any Notice.isMarker = false then
    s.setQueue (s.li.queue ++ [Notice.fresh none])
  else s

/-- The queue after an offered notice with this payload has joined it, or none where no place can be found (R61,
steps 1 to 3). -/
def joinQueue (q : List Notice) (p : Payload) : Option (List Notice) :=
  if q.length < queuePlaces then some (q ++ [Notice.fresh (some p)])
  else if q.any Notice.isMarker = true then some (q.eraseP Notice.isMarker ++ [Notice.fresh (some p)])
  else none

/-- The Lane Controller offers a TALLY (R61). -/
def State.offerTally (s : State) (p : Payload) : State :=
  if s.ctl.mode = .muted then s.countLine (·.addDropped 1)
  else
    match joinQueue s.li.queue p with
    | some q => s.setQueue q
    | none => (s.countLine (·.addDropped 1)).setFlag .noticeLost

/-- The Share Unit offers a DRAW; the answer is none where it is refused (R61, R115). -/
def State.offerDraw (s : State) (p : Payload) : Option State :=
  if s.ctl.mode = .muted then none else (joinQueue s.li.queue p).map s.setQueue

/-! ## The change check -/

/-- The fresh set differs from the last-sent demand list (R91). -/
def demandDiffers (fresh lastSent : List Wanted) : Bool :=
  lastSent.any (fun e => !fresh.contains e)
    || (decide (lastSent.length < demandPlaces)
      && fresh.any fun w => lastSent.all fun e => !(e.bay == w.bay && e.line == w.line))

/-- The Peer Tracker's change check (R90, R91); none is made in LOADING or MUTED. -/
def State.changeCheck (s : State) : State :=
  if s.ctl.mode ≠ .loading ∧ s.ctl.mode ≠ .muted ∧ demandDiffers s.freshSet s.peers.lastSent = true then s.offerMarker
  else s

/-! ## The substitute trial -/

/-- The candidate positions of a trial, in list order (R140). -/
def Line.candidates (l : Line) : List Nat :=
  (List.range (l.substitutes.length + 1)).filter fun p => decide (l.position < p)

/-- The line with its active position moved (R142, step 1). -/
def Line.moved (p : Nat) (l : Line) : Line := { l with position := p }

/-- A candidate fits (R141): the projection with it passes both comparisons. -/
def fits (items : List ItemRecord) (bd : Build) (i p : Nat) : Bool :=
  decide (bd.floor ≤ projectedValue items (bd.lines.modify i (Line.moved p)))
    && decide (projectedWeight items (bd.lines.modify i (Line.moved p)) ≤ bd.ceiling)

/-- The line after a switch to a position at now (R142, steps 1 and 2). -/
def Line.switched (now p : Nat) (l : Line) : Line :=
  { l with position := p, wait := l.wait.zero now, trialMark := false }

/-- The line after a trial without a fit (R143). -/
def Line.unswitched (l : Line) : Line := { l with exhausted := true, trialMark := true }

/-- A switch of a line (R142). At the clock's largest value its new expiry is left to its own command (log 31). -/
def State.switchLine (s : State) (b : BayNo) (i p : Nat) (bd : Build) (l : Line) : State :=
  ((s.modifyLine b i (Line.switched s.clock p)).record
    (.substituted b bd.orderRef i l.activeItem (l.itemAt p) l.remaining)).changeCheck

/-- The end of a trial in which no candidate fits (R143). -/
def State.noFit (s : State) (b : BayNo) (i : Nat) (bd : Build) (l : Line) : State :=
  let t := s.modifyLine b i Line.unswitched
  if l.exhausted = true then t else t.record (.substituteExhausted b bd.orderRef i)

/-- A trial on a line at now (R140). -/
def State.trial (s : State) (b : BayNo) (i : Nat) : State :=
  match s.bay b with
  | none => s
  | some bd =>
    match bd.lines[i]? with
    | none => s
    | some l =>
      match l.candidates.find? (fits s.items bd i) with
      | some p => s.switchLine b i p bd l
      | none => s.noFit b i bd l

/-- The rank of a place among trials that start at once (log 10). -/
def trialKey (fresh : Nat) (bl : BayNo × Nat) : RankKey :=
  { score := Config.trialRank fresh (bl.1.val * 12 + bl.2), station := 0, bay := bl.1.val, line := bl.2 }

/-- The trials one step starts at once. Their order is open (R138, R148): a free value decides it (log 10). -/
def State.trials (s : State) : List (BayNo × Nat) → State
  | [] => s
  | [x] => s.trial x.1 x.2
  | x :: y :: rest =>
    (rankSort (trialKey s.draws) (x :: y :: rest)).foldl (fun t x => t.trial x.1 x.2) (s.setDraws (s.draws + 1))

/-- The running condition of every line of some bays evaluated afresh (R48), and the trials this starts (R138). -/
def State.reevaluate (s : State) (bs : List BayNo) : State := (s.evalBays bs).trials (bs.flatMap s.trialsIn)

/-! ## Changes of mode -/

/-- `s` with the station mode replaced. -/
def State.withMode (s : State) (m : Mode) : State := s.setCtl { s.ctl with mode := m }

/-- A change of mode and the steps that follow it (R165). -/
def State.changeMode (s : State) (m : Mode) (bySetMode : Bool) : State :=
  let t := ((s.withMode m).reevaluate allBays).changeCheck
  if bySetMode = true then t else t.setFlag .modeChanged

/-- The CLOSING check (R167). -/
def State.closingCheck (s : State) : State :=
  if s.ctl.mode = .closing ∧ s.allEmpty = true ∧ s.lane.queue = [] then s.changeMode .quiet false else s

/-! ## Bays -/

/-- A bay returns to EMPTY (R19), with the change check and the CLOSING check that follow. -/
def State.returnToEmpty (s : State) (b : BayNo) : State := ((s.setBay b none).changeCheck).closingCheck

/-- The deadline expiry of a bay (R37). -/
def State.takeDeadline (s : State) (b : BayNo) : State :=
  match s.bay b with
  | none => s
  | some bd =>
    if bd.work = .ready ∧ bd.held = false then s.setBay b (some { bd with deadlinePending := false })
    else
      (s.setBay b (some { bd with deadlinePending := false, deadlineReported := true })).record
        (.deadlineMissed b bd.orderRef)

/-- The chill window of a bay opens at a placement (R30): `placed` says that a chilled line of it has a taken count
above 0. -/
def Build.openWindow (expiry : Nat) (placed : Bool) (bd : Build) : Build :=
  if placed = true ∧ bd.chillExpiry = none then { bd with chillExpiry := some expiry } else bd

/-- Some allocation names a chilled line of the build in this bay with a taken count above 0 (R30). -/
def chilledPlaced (items : List ItemRecord) (b : BayNo) (bd : Build) (placement : List (Allocation × Nat)) : Bool :=
  placement.any fun x =>
    x.1.bay == b && decide (0 < x.2) && ((bd.lines[x.1.line]?).map (Line.chilled items)).getD false

/-- The completion check of one bay (R27, R28), setting BAY_READY where the bay itself enters READY (R29). -/
def State.checkCompletion (s : State) (b : BayNo) : State :=
  match s.bay b with
  | none => s
  | some bd =>
    let t := s.setBay b (some { bd with work := completedWork s.items bd })
    if bd.held = false ∧ bd.work ≠ .ready ∧ completedWork s.items bd = .ready then t.setFlag .bayReady else t

/-- The bay steps of a placement for one bay: the chill window rule, then completion (R129). -/
def State.bayStep (placement : List (Allocation × Nat)) (s : State) (b : BayNo) : State :=
  (s.modifyBuild b fun bd =>
    bd.openWindow s.newChillExpiry (chilledPlaced s.items b bd placement)).checkCompletion b

/-! ## The tote table -/

/-- `s` with the tote table replaced. -/
def State.setTable (s : State) (t : List ToteEntry) : State := s.setTotes { s.totes with table := t }

/-- The entry of a tote ID, if the table holds one (R98). -/
def State.toteEntry (s : State) (tote : ToteId) : Option ToteEntry := s.totes.table.find? fun e => e.tote == tote

/-- The tote stands in the lane queue. -/
def State.inLane (s : State) (tote : ToteId) : Bool := s.lane.queue.any fun e => e.tote == tote

/-- An entry goes before another in the choice of R100: touched earlier, or at the same time with the lower tote
ID. -/
def removedFirst (x y : ToteEntry) : Bool :=
  decide (x.touched < y.touched) || (x.touched == y.touched && decide (x.tote.toNat < y.tote.toNat))

/-- The entry R100 removes among some entries. -/
def pickRemoved : List ToteEntry → Option ToteEntry
  | [] => none
  | e :: es =>
    match pickRemoved es with
    | none => some e
    | some m => if removedFirst e m = true then some e else some m

/-- A table with an entry created or set: in its place where the table holds its tote, else in a free place, else in
the place of the entry R100 removes. Where every entry's tote is in the lane, which the lane's size rules out, the
table stays as it is (log 18). -/
def putTote (inLane : ToteId → Bool) (table : List ToteEntry) (e : ToteEntry) : List ToteEntry :=
  if (table.any fun x => x.tote == e.tote) = true then table.map fun x => if x.tote == e.tote then e else x
  else if table.length < totePlaces then table ++ [e]
  else
    match pickRemoved (table.filter fun x => !inLane x.tote) with
    | none => table
    | some v => (table.filter fun x => x.tote != v.tote) ++ [e]

/-- Create or set a tote entry (R100, R101). -/
def State.putEntry (s : State) (e : ToteEntry) : State := s.setTable (putTote s.inLane s.totes.table e)

/-- How an arriving fill serial compares with the held one (R99). -/
inductive SerialOrder where
  | same | newer | older
deriving DecidableEq, Repr

/-- The comparison of fill serials (R99). -/
def serialOrder (arriving held : Serial) : SerialOrder :=
  if (arriving - held).toNat = 0 then .same else if (arriving - held).toNat ≤ 127 then .newer else .older

/-- Every entry marked uncertain, none touched (R105). -/
def State.markUncertain (s : State) : State :=
  s.setTable (s.totes.table.map fun e => { e with uncertain := true })

/-- A tote entry after a restoration (R107). -/
def ToteEntry.restored (e : ToteEntry) (drawn now : Nat) : ToteEntry :=
  { e with remaining := min 255 (e.remaining + drawn), touched := now }

/-- A tote entry after a short pick (R107). -/
def ToteEntry.shortPicked (e : ToteEntry) (now : Nat) : ToteEntry :=
  { e with remaining := 0, uncertain := false, touched := now }

/-- The TALLY of a tote entry (R125). -/
def ToteEntry.tally (e : ToteEntry) : Payload := .tally e.tote e.serial e.item (BitVec.ofNat 8 e.remaining)

/-- The tote entry as it stands after the settlement of a lane entry (R107); where the serials differ it is left
untouched. -/
def settledEntry (l : LaneEntry) (f : ToteEntry → ToteEntry) (e : ToteEntry) : ToteEntry :=
  if e.serial = l.serial then f e else e

/-- Settle a tote's count and offer the TALLY that results (R107, R125). A lane entry's tote always has a tote entry
(R100); where it had none, nothing is settled or offered (log 18). -/
def State.settle (s : State) (l : LaneEntry) (f : ToteEntry → ToteEntry) : State :=
  match s.toteEntry l.tote with
  | none => s
  | some e =>
    (s.setTable (s.totes.table.map fun x => if x.tote == l.tote then settledEntry l f x else x)).offerTally
      (settledEntry l f e).tally

/-! ## The lane -/

/-- `s` with the lane queue replaced. -/
def State.setLaneQueue (s : State) (q : List LaneEntry) : State := s.setLane { s.lane with queue := q }

/-- The oldest AT_BENCH entry (R128, R132). -/
def LaneEntry.isAtBench (e : LaneEntry) : Bool :=
  match e.state with
  | .inbound => false
  | .atBench _ => true

/-- The oldest AT_BENCH entry (R128, R132). -/
def State.headAtBench (s : State) : Option LaneEntry := s.lane.queue.find? LaneEntry.isAtBench

/-- The divert confirm expiry of an entry (R126). -/
def State.confirmDue (s : State) (e : LaneEntry) : Nat :=
  limitClock (e.divertTime + s.loader.active.confirmLimit * 10)

/-- The dwell expiry of an entry that arrived then (R121, R133). -/
def State.dwellDue (s : State) (arrival : Nat) : Nat := limitClock (arrival + s.loader.active.dwellLimit * 10)

/-- Every allocation of a lane entry unpinned (R9, R124). -/
def State.unpinAll (s : State) (as : List Allocation) : State := as.foldl State.unpin s

/-- The end of a departure (R124): the entry leaves the queue, the accumulators of the bays it named are evaluated,
one change check and, in CLOSING, the CLOSING check are made. At the clock's largest value the evaluation tries every
line it starts whose trial mark is clear, one whose wait the pick has set to 0 too (log 31). -/
def State.endDeparture (s : State) (l : LaneEntry) : State :=
  (((s.setLaneQueue (s.lane.queue.eraseP fun e => e.tote == l.tote)).reevaluate
    (touchedBays l.allocations)).changeCheck).closingCheck

/-- MERGE is driven high (R120). -/
def State.pulseMerge (s : State) : State := s.setLane { s.lane with merge := true }

/-! ## Peers -/

/-- The roster place of a station number 1..32 (R76). -/
def rosterPlace (p : Nat) : Fin 32 := Fin.ofNat 32 (p - 1)

/-- The roster record of a station number (R76). -/
def State.peer (s : State) (p : Nat) : PeerRecord := s.peers.roster[rosterPlace p]

/-- `s` with the roster record of a station number replaced. -/
def State.setPeer (s : State) (p : Nat) (r : PeerRecord) : State :=
  s.setPeers { s.peers with roster := s.peers.roster.set (rosterPlace p) r }

/-- `s` with the heard-demand table replaced. -/
def State.setHeard (s : State) (h : List HeardEntry) : State := s.setPeers { s.peers with heard := h }

/-- The heard entries of a peer (R81). -/
def State.heardOf (s : State) (p : Nat) : List HeardEntry := s.peers.heard.filter fun h => h.peer == p

/-- Entries stored of a peer (R76, R81). -/
def State.entriesStored (s : State) (p : Nat) : Nat := (s.heardOf p).length

/-- Every heard entry of a peer removed (R79, R80, R82). -/
def State.removeHeard (s : State) (p : Nat) : State := s.setHeard (s.peers.heard.filter fun h => h.peer != p)

/-- The lowest-ranked of some heard entries (R84). -/
def lowestHeard : List HeardEntry → Option HeardEntry
  | [] => none
  | h :: hs =>
    match lowestHeard hs with
    | none => some h
    | some m => if ranksAbove m.key h.key = true then some h else some m

/-- An entry is inserted, or discarded with heard-overflow counted (R84). -/
def State.insertHeard (s : State) (h : HeardEntry) : State :=
  if s.peers.heard.length < heardPlaces then s.setHeard (s.peers.heard ++ [h])
  else
    match lowestHeard s.peers.heard with
    | none => s
    | some m =>
      if ranksAbove h.key m.key = true then s.setHeard (s.peers.heard.erase m ++ [h])
      else s.setPeers { s.peers with overflow := satAdd s.peers.overflow 1 }

/-- The silence expiry of a peer heard last at that time (R79). -/
def State.silenceDue (s : State) (lastHeard : Nat) : Nat :=
  limitClock (lastHeard + s.loader.active.silenceLimit * 10)

/-- A sequence gap of a peer's notice (R78), but for the peer's own gaps count, which `rosterUpdate` raises. -/
def State.gap (s : State) : State := (s.countLine LineCounters.incGaps).markUncertain

/-- The notice bears a number other than the one expected of a PRESENT peer (R77 step 2, R78). -/
def revealsGap (r : PeerRecord) (isJoin : Bool) (sequence : Byte) : Bool :=
  r.state == .present && !isJoin && decide (r.lastSequence.map (· + 1) ≠ some sequence)

/-- The roster record after a good notice at now (R77, R78 step 1). -/
def PeerRecord.afterNotice (r : PeerRecord) (isJoin : Bool) (sequence : Byte) (now : Nat) : PeerRecord :=
  { state := .present, lastSequence := some sequence, lastHeard := some now, heard := satAdd r.heard 1,
    gaps := if revealsGap r isJoin sequence = true then satAdd r.gaps 1 else r.gaps }

/-- The Peer Tracker's update at every good notice from a peer (R77, R78). -/
def State.rosterUpdate (s : State) (p : Nat) (isJoin : Bool) (sequence : Byte) : State :=
  let r := s.peer p
  let t := if revealsGap r isJoin sequence = true then s.gap else s
  t.setPeer p (r.afterNotice isJoin sequence s.clock)

end Sys2Proof.Machine
end

