-- ==== Sys2Proof/Machine/BenchPort.lean ====
section
/-! DEFINITION. The Bench Port: transactions, the reply buffer and READY (R173 to R176), and the byte codes of named
values (R183). Every request's meaning goes through `State.serve`. -/

namespace Sys2Proof.Machine

/-! ## Codes -/

/-- Station mode (R183). -/
def Mode.code : Mode → Byte
  | .loading => 0
  | .settling => 1
  | .active => 2
  | .closing => 3
  | .quiet => 4
  | .muted => 5

/-- Bay and resume states other than EMPTY and HELD (R183). -/
def WorkState.code : WorkState → Byte
  | .gathering => 1
  | .chilling => 2
  | .ready => 3

/-- The bay state of a build (R23, R183): HELD is 4. -/
def Build.stateCode (bd : Build) : Byte := if bd.held = true then 4 else bd.work.code

/-- The resume state of a build, 0 where it is absent (R23, R183). -/
def Build.resumeCode (bd : Build) : Byte := if bd.held = true then bd.work.code else 0

/-- Peer state (R183); OWN is 3. -/
def PeerState.code : PeerState → Byte
  | .absent => 0
  | .present => 1
  | .silent => 2

/-- Loader state (R183). -/
def LoaderState.code : LoaderState → Byte
  | .idle => 0
  | .loading => 1
  | .writing => 2

/-- Load outcome (R183). -/
def LoadOutcome.code : LoadOutcome → Byte
  | .loaded => 0
  | .clamped => 1
  | .defaulted => 2

/-- SETTINGS_NOTE cause (R183). -/
def NoteCause.code : NoteCause → Byte
  | .none => 0
  | .clamped => 1
  | .defaulted => 2

/-- Status codes (R176). -/
def Status.code : Status → Byte
  | .ok => 0x01
  | .accepted => 0x02
  | .busy => 0x03
  | .badRequest => 0x04
  | .badArg => 0x05
  | .bayState => 0x06
  | .mode => 0x07
  | .unknownItem => 0x08
  | .tableFull => 0x09
  | .poolFull => 0x0A
  | .inUse => 0x0B
  | .pinned => 0x0C
  | .infeasible => 0x0D
  | .noTote => 0x0E

/-! ## Transactions -/

/-- The link byte (R173). -/
def PortState.linkByte : PortState → Byte
  | .idle => 0x5A
  | .handling => 0x3C

/-- The bytes of a fetch after its link byte: status, output length, output (R173, R185); with no reply held, status
byte 0x00 and length 0. -/
def replyBytes : Option Reply → List Byte
  | none => [0x00, 0x00, 0x00]
  | some r => r.status.code :: be 2 r.output.length ++ r.output

/-- The first `n` bytes of a run that goes on with 0x00 (R173). -/
def clockOut (n : Nat) (bs : List Byte) : List Byte := (bs ++ List.replicate n 0).take n

/-- A transaction whose first byte comes while the port is HANDLING is ignored whole (R174). -/
def State.ignoreTransaction (s : State) (n : Nat) : State :=
  s.setPort { s.port with miso := s.port.state.linkByte :: List.replicate n 0 }

/-- A request transaction begins: the earlier reply is discarded, READY falls, and the port is HANDLING (R173). -/
def State.beginRequest (s : State) (n : Nat) : State :=
  s.setPort { s.port with
    state := .handling, reply := none, ready := false, miso := s.port.state.linkByte :: List.replicate n 0 }

/-- The block's result is in the reply buffer: the port returns to IDLE and READY rises (R173). -/
def State.finishRequest (s : State) (r : Reply) : State :=
  s.setPort { s.port with state := .idle, reply := some r, ready := true }

/-- A reply with output length 0 (R176). -/
def Reply.refuse (st : Status) : Reply := { status := st, output := [] }

/-- An OK reply with its output. -/
def Reply.ok (output : List Byte) : Reply := { status := .ok, output := output }

/-- A request transaction with a known code (R173 to R175). `open'` says that it is taken in LOADING too, `refusal`
is the reply the Bench Port makes for a check that fails, and `owner` is what the owning block does with the block
of parameters. -/
def State.serve (s : State) (rule : List Byte → Bool) (open' : Bool) (refusal : Status → Reply) (tx : List Byte)
    (owner : List Byte → State → State × Reply) : State :=
  if s.port.state = .handling then s.ignoreTransaction tx.length
  else
    match checkRequest rule (s.ctl.mode == .loading && !open') tx with
    | .error st => (s.beginRequest tx.length).finishRequest (refusal st)
    | .ok block => (owner block (s.beginRequest tx.length)).1.finishRequest (owner block (s.beginRequest tx.length)).2

/-- What an event does while RESET is not held low; while it is, the part takes no event (R161). -/
def State.whileUp (s : State) (f : State → State) : State := if s.resetLow = true then s else f s

/-- FETCH_TRANSACTION (R173, R174): the reply goes out and leaves the buffer, and READY falls. -/
def State.fetch (s : State) (clocked : Nat) : State :=
  if s.port.state = .handling then s.ignoreTransaction clocked
  else
    s.setPort { s.port with
      reply := none, ready := false, miso := s.port.state.linkByte :: clockOut clocked (replyBytes s.port.reply) }

/-- FETCH_TRANSACTION. -/
def execFetchTransaction (clocked : Nat) (s : State) : Host.Outcome State Fault Refusal :=
  .next (s.whileUp fun t => t.fetch clocked)

/-- A request transaction whose code is none of the 24 (R175, check 1). A code of the 24, or the fetch code 0x00,
spells another command than this row, and nothing happens here (log 15). -/
def State.unknownRequest (s : State) (code : Byte) (tx : List Byte) : State :=
  if code = 0x00 ∨ isRequestCode code = true then s
  else if s.port.state = .handling then s.ignoreTransaction tx.length
  else (s.beginRequest tx.length).finishRequest (Reply.refuse .badRequest)

/-- UNKNOWN_REQUEST_CODE. -/
def execUnknownRequestCode (code : Byte) (tx : List Byte) (s : State) : Host.Outcome State Fault Refusal :=
  .next (s.whileUp fun t => t.unknownRequest code tx)

end Sys2Proof.Machine
end

