-- ==== Sys2Proof/Machine/BayExpiries.lean ====
section
/-! DEFINITION. The expiries of the bays and their lines: the chill window (R31, R32), the deadline (R37) and the
substitute wait (R138). -/

namespace Sys2Proof.Machine

/-- A build whose chill window has lapsed (R31 steps 2 to 4, R32): the resume state is kept in `work`. -/
def Build.lapsed (bd : Build) : Build := { bd with held := true, lapse := true }

/-- The chill window expiry of a bay is due: its lapse flag is clear and its expiry reached (R31, R32). The window of
a GATHERING bay is never open (R30), and no rule takes an expiry there. -/
def State.chillDue (s : State) (bd : Build) : Bool :=
  !bd.lapse && bd.chillExpiry.any (fun e => decide (e ≤ s.clock)) && (bd.held || bd.work != .gathering)

/-- The chill window expiry of a bay is taken, if it is due (R31, R32): a HELD bay stays HELD, and no change check
follows for it. -/
def State.takeChill (s : State) (b : BayNo) : State :=
  match s.bay b with
  | none => s
  | some bd =>
    if s.chillDue bd = false then s
    else
      let t := (s.record (.chillLapse b bd.orderRef)).setBay b (some bd.lapsed)
      if bd.held = true then t else (t.reevaluate [b]).changeCheck

/-- CHILL_WINDOW_EXPIRY (R31, R32). -/
def execChillWindowExpiry (bay : BayNo) (s : State) : Host.Outcome State Fault Refusal :=
  .next (s.whileUp fun t => t.takeChill bay)

/-- The deadline expiry of a bay is due (R37). -/
def State.deadlineDue (s : State) (b : BayNo) : Bool :=
  (s.bay b).any fun bd => bd.deadlinePending && decide (bd.deadline ≤ s.clock)

/-- DEADLINE_EXPIRY (R37). -/
def execDeadlineExpiry (bay : BayNo) (s : State) : Host.Outcome State Fault Refusal :=
  .next (s.whileUp fun t => if t.deadlineDue bay = true then t.takeDeadline bay else t)

/-- The substitute wait expiry of a line is due (R138): its accumulator runs, its trial mark is clear, and the clock has
reached the expiry, which R159 limits to the clock's largest value (log 31). -/
def State.substituteDue (s : State) (b : BayNo) (i : Nat) : Bool :=
  ((s.linesOf b)[i]?).any fun l =>
    !l.trialMark && l.wait.runStart.any fun r => decide (l.wait.expiry s.waitLimit r ≤ s.clock)

/-- SUBSTITUTE_WAIT_EXPIRY (R138). -/
def execSubstituteWaitExpiry (bay : BayNo) (line : Fin 12) (s : State) : Host.Outcome State Fault Refusal :=
  .next (s.whileUp fun t => if t.substituteDue bay line.val = true then t.trial bay line.val else t)

end Sys2Proof.Machine
end

