-- ==== Sys2Proof/Machine/BenchReports.lean ====
section
/-! DEFINITION. The reporting requests: Read Identity, Read Status, Read Clock (R177), Read Events (R182), Set Event
Enables (R181), Read Bay (R178), Read Lane (R134), Read Peers and Read Line Counters (R179), Read Settings (R171).
The layouts of their outputs are those of R185. -/

namespace Sys2Proof.Machine

/-! ## Outputs -/

/-- Output of Read Identity (R177, R185). -/
def State.identityOutput (s : State) : List Byte :=
  be 2 partIdentifier ++ be 1 partRevision ++ be 1 s.ctl.station ++ be 1 8 ++ be 1 poolSize ++ be 2 itemPlaces
    ++ [s.ctl.mode.code]

/-- Output of Read Status (R177, R185). -/
def State.statusOutput (s : State) : List Byte :=
  [s.ctl.mode.code, s.loader.state.code] ++ be 1 s.ctl.station ++ be 4 s.clock ++ be 2 s.totes.good
    ++ be 2 s.totes.malformed ++ be 2 s.totes.duplicate ++ be 1 s.baysInUse ++ be 1 s.poolFree
    ++ be 2 s.items.length ++ be 1 s.lane.queue.length ++ be 1 s.li.queue.length ++ be 1 s.totes.table.length
    ++ be 2 s.peers.heard.length ++ be 2 s.port.flags.toNat

/-- Output of Read Events (R182, R185). -/
def BenchPort.eventsOutput (p : BenchPort) : List Byte :=
  be 2 p.flags.toNat ++ [p.cause.code] ++ be 2 p.enables.toNat

/-- Output of Set Event Enables (R181, R185): the new enables and the flags as they stand. -/
def BenchPort.enablesOutput (p : BenchPort) : List Byte := be 2 p.enables.toNat ++ be 2 p.flags.toNat

/-- The 32 bytes of one line in a Read Bay output (R178, R185). -/
def State.lineOutput (s : State) (bd : Build) (i : Nat) (l : Line) : List Byte :=
  let adv := advertised s.ctl.mode s.items bd l
  be 1 i ++ code16 l.primary ++ be 1 l.substitutes.length ++ code16 (l.substitutes.getD 0 0)
    ++ code16 (l.substitutes.getD 1 0) ++ code16 (l.substitutes.getD 2 0) ++ be 1 l.position ++ code16 l.activeItem
    ++ be 1 l.ordered ++ be 1 l.placed ++ be 1 l.pinned ++ be 1 l.needed ++ be 4 l.placedValue ++ be 4 l.placedWeight
    ++ be 4 (l.wait.value s.clock) ++ [flagByte l.exhausted adv adv]
    ++ be 2 (if adv = true then scoreOf s.clock bd l else 0)

/-- Output of Read Bay for a bay not EMPTY (R178, R185). -/
def State.buildOutput (s : State) (b : BayNo) (bd : Build) : List Byte :=
  be 1 b.val ++ [bd.stateCode, bd.resumeCode] ++ be 4 bd.orderRef.toNat ++ be 4 bd.deadline
    ++ [flagByte bd.deadlineReported bd.lapse bd.chillExpiry.isSome] ++ be 4 (bd.chillExpiry.getD 0) ++ be 4 bd.floor
    ++ be 2 bd.ceiling ++ be 1 bd.lines.length ++ be 2 bd.total ++ be 2 bd.remaining
    ++ be 4 (projectedValue s.items bd.lines) ++ be 4 (projectedWeight s.items bd.lines)
    ++ bd.lines.zipIdx.flatMap fun li => s.lineOutput bd li.2 li.1

/-- Output of Read Bay (R178, R185); for an EMPTY bay the bay number and the state alone. -/
def State.bayOutput (s : State) (b : BayNo) : List Byte :=
  match s.bay b with
  | none => be 1 b.val ++ [0]
  | some bd => s.buildOutput b bd

/-- The bytes of an allocation (R185). -/
def Allocation.bytes (a : Allocation) : List Byte := be 1 a.bay.val ++ be 1 a.line ++ be 1 a.granted

/-- Lane entry state and times (R183, R185): the arrival time is 0 while INBOUND. -/
def LaneEntry.stateBytes (e : LaneEntry) : List Byte :=
  match e.state with
  | .inbound => [0] ++ be 4 e.divertTime ++ be 4 0
  | .atBench arrival => [1] ++ be 4 e.divertTime ++ be 4 arrival

/-- The bytes of a lane entry (R134, R185). -/
def LaneEntry.bytes (e : LaneEntry) : List Byte :=
  code16 e.tote ++ [e.serial] ++ code16 e.item ++ be 1 e.drawn ++ e.stateBytes ++ [boolByte e.stale]
    ++ be 1 e.allocations.length ++ e.allocations.flatMap Allocation.bytes

/-- Output of Read Lane (R134, R185). -/
def State.laneOutput (s : State) (laneFull : Bool) : List Byte :=
  be 1 s.loader.active.laneCapacity ++ [boolByte laneFull] ++ be 2 s.lane.unexpected ++ be 1 s.lane.queue.length
    ++ s.lane.queue.flatMap LaneEntry.bytes

/-- The eleven bytes of a roster record (R179, R185); the own number's place reports OWN and zeros. -/
def State.rosterBytes (s : State) (p : Nat) : List Byte :=
  if p = s.ctl.station then [3] ++ List.replicate 10 0
  else
    let r := s.peer p
    [r.state.code, r.lastSequence.getD 0] ++ be 4 (r.lastHeard.getD 0) ++ be 2 r.heard ++ be 2 r.gaps
      ++ be 1 (s.entriesStored p)

/-- The eleven bytes of a stored heard entry (R179, R185). -/
def HeardEntry.bytes (h : HeardEntry) : List Byte :=
  be 1 h.entry.bay.toNat ++ be 1 h.entry.line.toNat ++ code16 h.entry.item ++ [h.entry.units] ++ code16 h.entry.score
    ++ be 4 h.timeHeard

/-- The stored entries Read Peers reports for the named peer, highest rank first; none for 0 or the own number
(R179). -/
def State.namedEntries (s : State) (p : Nat) : List HeardEntry :=
  if p = 0 ∨ p = s.ctl.station then [] else rankSort HeardEntry.key (s.heardOf p)

/-- Output of Read Peers (R179, R185). -/
def State.peersOutput (s : State) (p : Nat) : List Byte :=
  be 1 s.ctl.station ++ be 2 s.peers.heard.length ++ be 2 s.peers.overflow
    ++ ((List.range 32).flatMap fun k => s.rosterBytes (k + 1)) ++ be 1 (s.namedEntries p).length
    ++ (s.namedEntries p).flatMap HeardEntry.bytes

/-- Output of Read Line Counters (R179, R185), in the order of the table of R71. -/
def State.countersOutput (s : State) : List Byte :=
  let c := s.li.counters
  be 2 c.sent ++ be 2 c.good ++ be 2 c.fragments ++ be 2 c.crcBad ++ be 2 c.malformed ++ be 2 c.collisions
    ++ be 2 c.dropped ++ be 2 c.gaps ++ be 1 s.li.queue.length

/-- Output of Read Settings (R171, R185). -/
def State.settingsOutput (s : State) : List Byte :=
  s.loader.active.bytes ++ be 2 s.loader.active.settleTime ++ be 2 s.loader.active.silenceLimit
    ++ [s.loader.outcome.code, s.loader.state.code]

/-! ## Meanings -/

/-- A request that reports and changes nothing. -/
def reportOwner (output : State → List Byte) (_ : List Byte) (s : State) : State × Reply :=
  (s, Reply.ok (output s))

/-- READ_IDENTITY (R177): taken in every mode. -/
def execReadIdentity (tx : List Byte) (s : State) : Host.Outcome State Fault Refusal :=
  .next (s.whileUp fun t => t.serve (fixedLength 0) true Reply.refuse tx (reportOwner State.identityOutput))

/-- READ_STATUS (R177): taken in every mode. -/
def execReadStatus (tx : List Byte) (s : State) : Host.Outcome State Fault Refusal :=
  .next (s.whileUp fun t => t.serve (fixedLength 0) true Reply.refuse tx (reportOwner State.statusOutput))

/-- READ_CLOCK (R177). -/
def execReadClock (tx : List Byte) (s : State) : Host.Outcome State Fault Refusal :=
  .next (s.whileUp fun t => t.serve (fixedLength 0) false Reply.refuse tx (reportOwner fun u => be 4 u.clock))

/-- Read Events (R182): the flags, the cause and the enables as they stand, and then every flag and the cause
cleared. -/
def eventsOwner (_ : List Byte) (s : State) : State × Reply :=
  (s.setPort s.port.clearFlags, Reply.ok s.port.eventsOutput)

/-- READ_EVENTS. -/
def execReadEvents (tx : List Byte) (s : State) : Host.Outcome State Fault Refusal :=
  .next (s.whileUp fun t => t.serve (fixedLength 0) false Reply.refuse tx eventsOwner)

/-- Set Event Enables (R181). -/
def enablesOwner (block : List Byte) (s : State) : State × Reply :=
  let mask := fieldAt block 0 2
  if 8192 ≤ mask then (s, Reply.refuse .badArg)
  else
    let t := s.setPort (s.port.setEnables (BitVec.ofNat 13 mask))
    (t, Reply.ok t.port.enablesOutput)

/-- SET_EVENT_ENABLES. -/
def execSetEventEnables (tx : List Byte) (s : State) : Host.Outcome State Fault Refusal :=
  .next (s.whileUp fun t => t.serve (fixedLength 2) false Reply.refuse tx enablesOwner)

/-- The bay a parameter byte names, if its number is 0..7. -/
def bayOf (n : Nat) : Option BayNo := if h : n < 8 then some ⟨n, h⟩ else none

/-- Read Bay (R178). -/
def readBayOwner (block : List Byte) (s : State) : State × Reply :=
  match bayOf (fieldAt block 0 1) with
  | none => (s, Reply.refuse .badArg)
  | some b => (s, Reply.ok (s.bayOutput b))

/-- READ_BAY. -/
def execReadBay (tx : List Byte) (s : State) : Host.Outcome State Fault Refusal :=
  .next (s.whileUp fun t => t.serve (fixedLength 1) false Reply.refuse tx readBayOwner)

/-- READ_LANE (R134). -/
def execReadLane (laneFull : Bool) (tx : List Byte) (s : State) : Host.Outcome State Fault Refusal :=
  .next (s.whileUp fun t =>
    t.serve (fixedLength 0) false Reply.refuse tx (reportOwner fun u => u.laneOutput laneFull))

/-- Read Peers (R179). -/
def readPeersOwner (block : List Byte) (s : State) : State × Reply :=
  if 32 < fieldAt block 0 1 then (s, Reply.refuse .badArg) else (s, Reply.ok (s.peersOutput (fieldAt block 0 1)))

/-- READ_PEERS. -/
def execReadPeers (tx : List Byte) (s : State) : Host.Outcome State Fault Refusal :=
  .next (s.whileUp fun t => t.serve (fixedLength 1) false Reply.refuse tx readPeersOwner)

/-- Read Line Counters (R71, R72, R179): the eight counters and the queue length, and then the counters and the
degraded-reported mark cleared. -/
def lineCountersOwner (_ : List Byte) (s : State) : State × Reply :=
  (s.setLi { s.li with counters := LineCounters.zero, degraded := false }, Reply.ok s.countersOutput)

/-- READ_LINE_COUNTERS. -/
def execReadLineCounters (tx : List Byte) (s : State) : Host.Outcome State Fault Refusal :=
  .next (s.whileUp fun t => t.serve (fixedLength 0) false Reply.refuse tx lineCountersOwner)

/-- READ_SETTINGS (R171). -/
def execReadSettings (tx : List Byte) (s : State) : Host.Outcome State Fault Refusal :=
  .next (s.whileUp fun t => t.serve (fixedLength 0) false Reply.refuse tx (reportOwner State.settingsOutput))

end Sys2Proof.Machine
end

