-- ==== Sys2Proof/Machine/BenchBuilds.lean ====
section
/-! DEFINITION. The requests on items and builds: Load Items and Remove Item (R3 to R5), Open Build (R13 to R16),
Cancel Build (R20), Seal Build (R21), Hold Bays (R34) and Release Bays (R35). -/

namespace Sys2Proof.Machine

/-! ## Load Items and Remove Item -/

/-- The checks of R3 on one record, in their order; none where all pass. -/
def State.checkItem (s : State) (r : RawItem) : Option Status :=
  if r.code = 0 ∨ r.weight < 1 ∨ 9999 < r.weight ∨ 2 ≤ r.chill.toNat then some .badArg
  else
    match findItem s.items r.code with
    | some _ => if s.itemInUse r.code = true then some .inUse else none
    | none => if itemPlaces ≤ s.items.length then some .tableFull else none

/-- The record as the item table holds it (R1). -/
def RawItem.record (r : RawItem) : ItemRecord :=
  { code := r.code, value := r.value, weight := r.weight, chilled := r.chill.toNat == 1 }

/-- The item table with a record taken: in the place of the record of its code, else in a free place (R3). -/
def takeRecord (items : List ItemRecord) (r : ItemRecord) : List ItemRecord :=
  if (findItem items r.code).isSome = true then items.map fun x => if x.code == r.code then r else x
  else items ++ [r]

/-- The records of Load Items one at a time, stopping at the first that fails a check: the status and the number
taken (R3, R4). -/
def State.loadRecords (s : State) : List RawItem → Nat → State × Status × Nat
  | [], taken => (s, .ok, taken)
  | r :: rs, taken =>
    match s.checkItem r with
    | some st => (s, st, taken)
    | none => (s.setItems (takeRecord s.items r.record)).loadRecords rs (taken + 1)

/-- A Load Items reply: every one carries its taken count (R4, R176). -/
def itemsReply (taken : Nat) (st : Status) : Reply := { status := st, output := be 1 taken }

/-- Load Items (R3, R4). -/
def loadItemsOwner (block : List Byte) (s : State) : State × Reply :=
  let count := fieldAt block 0 1
  if count = 0 ∨ 8 < count then (s, itemsReply 0 .badArg)
  else
    let r := s.loadRecords (parseItems (block.drop 1)) 0
    (r.1, itemsReply r.2.2 r.2.1)

/-- LOAD_ITEMS. -/
def execLoadItems (tx : List Byte) (s : State) : Host.Outcome State Fault Refusal :=
  .next (s.whileUp fun t => t.serve (countedLength 7) false (itemsReply 0) tx loadItemsOwner)

/-- Remove Item (R5). -/
def removeItemOwner (block : List Byte) (s : State) : State × Reply :=
  let code := codeAt block 0
  if code = 0 then (s, Reply.refuse .badArg)
  else if (findItem s.items code).isNone = true then (s, Reply.refuse .unknownItem)
  else if s.itemInUse code = true then (s, Reply.refuse .inUse)
  else (s.setItems (s.items.filter fun r => r.code != code), Reply.ok [])

/-- REMOVE_ITEM. -/
def execRemoveItem (tx : List Byte) (s : State) : Host.Outcome State Fault Refusal :=
  .next (s.whileUp fun t => t.serve (fixedLength 2) false Reply.refuse tx removeItemOwner)

/-! ## Open Build -/

/-- Check 4 of R14 on one line entry. -/
def LineParams.wellFormed (p : LineParams) : Bool :=
  decide (1 ≤ p.ordered) && decide (p.ordered ≤ 24) && decide (p.substituteCount ≤ 3) && p.primary != 0
    && !p.substitutes.contains 0 && !p.substitutes.contains p.primary && decide p.substitutes.Nodup

/-- Check 4 of R14. -/
def BuildParams.wellFormed (p : BuildParams) : Bool :=
  decide (1 ≤ p.lines.length) && decide (p.lines.length ≤ 12) && decide (1 ≤ p.ceiling)
    && decide (p.ceiling ≤ 65535) && p.lines.all LineParams.wellFormed

/-- The item codes a line entry names. -/
def LineParams.codes (p : LineParams) : List ItemCode := p.primary :: p.substitutes

/-- The line record of a line entry (R15, step 1; R137). -/
def LineParams.line (p : LineParams) : Line :=
  { primary := p.primary, substitutes := p.substitutes, position := 0, ordered := p.ordered, placed := 0, pinned := 0,
    placedValue := 0, placedWeight := 0, wait := { stored := 0, runStart := none }, exhausted := false,
    trialMark := false }

/-- The line records of a build (R15, step 1). -/
def BuildParams.records (p : BuildParams) : List Line := p.lines.map LineParams.line

/-- The checks of R14 from check 3 on; none where all pass. -/
def State.checkBuild (s : State) (p : BuildParams) : Option Status :=
  if s.ctl.mode = .closing then some .mode
  else if p.wellFormed = false then some .badArg
  else if p.lines.all (fun l => l.codes.all fun c => (findItem s.items c).isSome) = false then some .unknownItem
  else if p.lines.all (fun l => l.substitutes.all fun c => isChilled s.items c == isChilled s.items l.primary) = false
  then some .badArg
  else if s.poolFree < p.lines.length then some .poolFull
  else if projectedValue s.items p.records < p.floor ∨ p.ceiling < projectedWeight s.items p.records then
    some .infeasible
  else none

/-- The bay record an accepted Open Build sets up (R15). -/
def State.newBuild (s : State) (p : BuildParams) : Build :=
  { work := if p.records.any (fun l => !l.chilled s.items) = true then .gathering else .chilling
    held := false
    orderRef := p.orderRef
    deadline := limitClock (s.clock + p.deadlineSeconds * 10)
    deadlinePending := true
    floor := p.floor
    ceiling := p.ceiling
    lines := p.records
    total := totalOrdered p.records
    chillExpiry := none
    deadlineReported := false
    lapse := false }

/-- A deadline already reached when it is set is taken at once (R37, R159). -/
def State.deadlineAtOnce (s : State) (b : BayNo) (deadline : Nat) : State :=
  if deadline ≤ s.clock then s.takeDeadline b else s

/-- An accepted Open Build (R15, R16, R37, R47). A substitute wait that the clock's end brings to now is left to its own
command: 95_what_each_step_holds.md names no trial within OPEN_BUILD (log 31). -/
def State.openBuild (s : State) (b : BayNo) (p : BuildParams) : State :=
  (((s.setBay b (some (s.newBuild p))).evalBays [b]).deadlineAtOnce b (s.newBuild p).deadline).changeCheck

/-- The output of an accepted Open Build (R16, R185). -/
def State.openOutput (s : State) (b : BayNo) (p : BuildParams) : List Byte :=
  be 1 b.val ++ be 4 (s.newBuild p).deadline ++ be 2 (s.newBuild p).total
    ++ be 4 (projectedValue s.items p.records) ++ be 4 (projectedWeight s.items p.records)
    ++ be 1 (s.poolFree - p.lines.length)

/-- Open Build (R14 to R16). A line count of 0 or above 12 fails check 4; where the bay is not EMPTY or the mode is CLOSING
check 2 or 3 comes first, so BAY_STATE or MODE answers and not the BAD_ARG of R185 (DESIGN CHOICE, log 38). -/
def openBuildOwner (block : List Byte) (s : State) : State × Reply :=
  let p := parseBuild block
  match bayOf p.bay with
  | none => (s, Reply.refuse .badArg)
  | some b =>
    if (s.bay b).isSome = true then (s, Reply.refuse .bayState)
    else
      match s.checkBuild p with
      | some st => (s, Reply.refuse st)
      | none => (s.openBuild b p, Reply.ok (s.openOutput b p))

/-- OPEN_BUILD. -/
def execOpenBuild (tx : List Byte) (s : State) : Host.Outcome State Fault Refusal :=
  .next (s.whileUp fun t => t.serve openBuildLength false Reply.refuse tx openBuildOwner)

/-! ## Cancel Build and Seal Build -/

/-- Cancel Build (R20). -/
def cancelBuildOwner (block : List Byte) (s : State) : State × Reply :=
  match bayOf (fieldAt block 0 1) with
  | none => (s, Reply.refuse .badArg)
  | some b =>
    match s.bay b with
    | none => (s, Reply.refuse .bayState)
    | some bd =>
      if bd.hasPins = true then (s, Reply.refuse .pinned)
      else (s.returnToEmpty b, Reply.ok (be 4 bd.orderRef.toNat ++ be 1 bd.lines.length))

/-- CANCEL_BUILD. -/
def execCancelBuild (tx : List Byte) (s : State) : Host.Outcome State Fault Refusal :=
  .next (s.whileUp fun t => t.serve (fixedLength 1) false Reply.refuse tx cancelBuildOwner)

/-- The output of Seal Build (R21, R185). -/
def Build.sealOutput (bd : Build) : List Byte :=
  be 4 bd.orderRef.toNat ++ be 1 bd.lines.length
    ++ (bd.lines.zipIdx.flatMap fun li =>
      be 1 li.2 ++ code16 li.1.activeItem ++ be 1 li.1.placed ++ [boolByte (li.1.position != 0)])
    ++ be 4 (bd.lines.map (·.placedValue)).sum ++ be 4 (bd.lines.map (·.placedWeight)).sum

/-- The bay state is READY (R23). -/
def Build.isReady (bd : Build) : Bool := bd.work == .ready && !bd.held

/-- Seal Build (R21). -/
def sealBuildOwner (block : List Byte) (s : State) : State × Reply :=
  match bayOf (fieldAt block 0 1) with
  | none => (s, Reply.refuse .badArg)
  | some b =>
    match s.bay b with
    | none => (s, Reply.refuse .bayState)
    | some bd =>
      if bd.isReady = false then (s, Reply.refuse .bayState) else (s.returnToEmpty b, Reply.ok bd.sealOutput)

/-- SEAL_BUILD. -/
def execSealBuild (tx : List Byte) (s : State) : Host.Outcome State Fault Refusal :=
  .next (s.whileUp fun t => t.serve (fixedLength 1) false Reply.refuse tx sealBuildOwner)

/-! ## Hold Bays and Release Bays -/

/-- The bays of a mask in ascending order (R34). -/
def baysOfMask (mask : Byte) : List BayNo := allBays.filter fun b => mask.getLsbD b.val

/-- The mask of some bays, bay b in position b (R185). -/
def maskOfBays (bs : List BayNo) : Byte := bs.foldl (fun m b => m ||| (1#8 <<< b.val)) 0

/-- The bays of the mask that Hold Bays moves to HELD: those in GATHERING, CHILLING or READY (R34). -/
def State.holdable (s : State) (mask : Byte) : List BayNo :=
  (baysOfMask mask).filter fun b => (s.bay b).any fun bd => !bd.held

/-- The bays of the mask that Release Bays takes out of HELD (R35). -/
def State.releasable (s : State) (mask : Byte) : List BayNo :=
  (baysOfMask mask).filter fun b => (s.bay b).any fun bd => bd.held

/-- A build as Hold Bays leaves it (R34): `work` is now the resume state. -/
def Build.hold (bd : Build) : Build := { bd with held := true }

/-- A HELD build as Release Bays leaves it (R35, steps 1 to 3). -/
def Build.release (expiry : Nat) (bd : Build) : Build :=
  if bd.lapse = true then { bd with held := false, chillExpiry := some expiry, lapse := false }
  else { bd with held := false }

/-- One bay released, with BAY_READY where it enters READY (R35, step 4; R29). -/
def State.releaseBay (s : State) (b : BayNo) : State :=
  match s.bay b with
  | none => s
  | some bd =>
    let t := s.setBay b (some (bd.release s.newChillExpiry))
    if bd.work = .ready then t.setFlag .bayReady else t

/-- The evaluation of the accumulators and the change check after the bays changed state; none of either where none
did (R25, R48). -/
def State.afterBayChanges (s : State) (bs : List BayNo) : State :=
  if bs = [] then s else (s.reevaluate bs).changeCheck

/-- Hold Bays (R34). -/
def holdBaysOwner (block : List Byte) (s : State) : State × Reply :=
  let bs := s.holdable (block.getD 0 0)
  ((bs.foldl (fun t b => t.modifyBuild b Build.hold) s).afterBayChanges bs, Reply.ok [maskOfBays bs])

/-- HOLD_BAYS. -/
def execHoldBays (tx : List Byte) (s : State) : Host.Outcome State Fault Refusal :=
  .next (s.whileUp fun t => t.serve (fixedLength 1) false Reply.refuse tx holdBaysOwner)

/-- Release Bays (R35). -/
def releaseBaysOwner (block : List Byte) (s : State) : State × Reply :=
  let bs := s.releasable (block.getD 0 0)
  ((bs.foldl State.releaseBay s).afterBayChanges bs, Reply.ok [maskOfBays bs])

/-- RELEASE_BAYS. -/
def execReleaseBays (tx : List Byte) (s : State) : Host.Outcome State Fault Refusal :=
  .next (s.whileUp fun t => t.serve (fixedLength 1) false Reply.refuse tx releaseBaysOwner)

end Sys2Proof.Machine
end

