-- ==== Sys2Proof/Machine/BenchLane.lean ====
section
/-! DEFINITION. The requests on the bench lane: Confirm Pick (R128 to R131) and Return Tote (R132). -/

namespace Sys2Proof.Machine

/-! ## Confirm Pick -/

/-- The taken counts of a Confirm Pick block after its count (R128). -/
def takenCounts (block : List Byte) : List Nat := (block.drop 1).map (·.toNat)

/-- Checks 2 and 3 of R128: one taken count for each allocation, none above its granted units. -/
def takenFits (e : LaneEntry) (taken : List Nat) : Bool :=
  taken.length == e.allocations.length && (e.allocations.zip taken).all fun x => decide (x.2 ≤ x.1.granted)

/-- The placement and the bay steps of an accepted Confirm Pick (R129). -/
def State.placePick (s : State) (e : LaneEntry) (taken : List Nat) : State :=
  (touchedBays e.allocations).foldl (State.bayStep (e.allocations.zip taken))
    ((e.allocations.zip taken).foldl State.place s)

/-- The settlement of a short pick (R130); nothing where the pick is not short. -/
def State.settleShort (s : State) (e : LaneEntry) (taken : Nat) : State :=
  if taken < e.drawn then
    (s.settle e fun x => x.shortPicked s.clock).record (.shortTote e.tote e.item e.drawn taken)
  else s

/-- An accepted Confirm Pick (R129 to R131). -/
def State.confirmPick (s : State) (e : LaneEntry) (taken : List Nat) : State :=
  (((s.placePick e taken).settleShort e taken.sum).pulseMerge).endDeparture e

/-- The output of Confirm Pick (R131, R185). The fill serial is the lane entry's also where the tote entry has been set
to another fill: the spec says only 'fill serial' (DESIGN CHOICE, log 35). -/
def pickOutput (e : LaneEntry) (taken : Nat) : List Byte :=
  code16 e.tote ++ [e.serial] ++ be 1 e.drawn ++ be 1 taken ++ [boolByte (decide (taken < e.drawn))]

/-- Confirm Pick (R128). A count of 0 or above 8 fails check 2, since an entry has 1 to 8 allocations; where no entry is
AT_BENCH check 1 comes first, so NO_TOTE answers and not the BAD_ARG of R185 (DESIGN CHOICE, log 34). -/
def confirmPickOwner (block : List Byte) (s : State) : State × Reply :=
  match s.headAtBench with
  | none => (s, Reply.refuse .noTote)
  | some e =>
    if takenFits e (takenCounts block) = false then (s, Reply.refuse .badArg)
    else (s.confirmPick e (takenCounts block), Reply.ok (pickOutput e (takenCounts block).sum))

/-- CONFIRM_PICK. -/
def execConfirmPick (tx : List Byte) (s : State) : Host.Outcome State Fault Refusal :=
  .next (s.whileUp fun t => t.serve (countedLength 1) false Reply.refuse tx confirmPickOwner)

/-! ## Return Tote -/

/-- An accepted Return Tote (R132). -/
def State.returnTote (s : State) (e : LaneEntry) : State :=
  ((((s.unpinAll e.allocations).settle e fun x => x.restored e.drawn s.clock)).pulseMerge).endDeparture e

/-- The remaining count that the TALLY of a return carries (R125, R132); 0 where the tote has no entry (log 18). -/
def State.returnedRemaining (s : State) (e : LaneEntry) : Nat :=
  match s.toteEntry e.tote with
  | none => 0
  | some x => (settledEntry e (fun y => y.restored e.drawn s.clock) x).remaining

/-- The output of Return Tote (R132, R185). The fill serial is the lane entry's, also where the tote entry has been set
to another fill and the remaining count is that entry's: the spec says only 'fill serial' (DESIGN CHOICE, log 35). -/
def State.returnOutput (s : State) (e : LaneEntry) : List Byte :=
  code16 e.tote ++ [e.serial] ++ be 1 (s.returnedRemaining e)

/-- Return Tote (R132). -/
def returnToteOwner (_ : List Byte) (s : State) : State × Reply :=
  match s.headAtBench with
  | none => (s, Reply.refuse .noTote)
  | some e => (s.returnTote e, Reply.ok (s.returnOutput e))

/-- RETURN_TOTE. -/
def execReturnTote (tx : List Byte) (s : State) : Host.Outcome State Fault Refusal :=
  .next (s.whileUp fun t => t.serve (fixedLength 0) false Reply.refuse tx returnToteOwner)

end Sys2Proof.Machine
end

