-- ==== Sys2Proof/Machine/BenchSystem.lean ====
section
/-! DEFINITION. The requests on the deviation table (R155, R156), the station mode (R166), the settings (R170) and
Restart (R169). -/

namespace Sys2Proof.Machine

/-! ## Read Deviations and Clear Deviations -/

/-- The kind code (R183). -/
def DeviationKind.code : DeviationKind → Byte
  | .substituted _ _ _ _ _ _ => 1
  | .substituteExhausted _ _ _ => 2
  | .chillLapse _ _ => 3
  | .deadlineMissed _ _ => 4
  | .shortTote _ _ _ _ => 5
  | .divertMissed _ _ _ => 6

/-- The bytes of a record from its format byte on, short or long as the kind fixes it (R152, R186): bay and line are
0xFF where absent. -/
def DeviationKind.bytes : DeviationKind → List Byte
  | .substituted b ref line fromItem toItem remaining =>
    [1] ++ be 1 b.val ++ be 4 ref.toNat ++ be 1 line ++ code16 fromItem ++ code16 toItem ++ be 1 remaining ++ [0, 0]
  | .substituteExhausted b ref line => [0] ++ be 1 b.val ++ be 4 ref.toNat ++ be 1 line
  | .chillLapse b ref => [0] ++ be 1 b.val ++ be 4 ref.toNat ++ [0xFF]
  | .deadlineMissed b ref => [0] ++ be 1 b.val ++ be 4 ref.toNat ++ [0xFF]
  | .shortTote tote item drawn taken =>
    [1, 0xFF] ++ be 4 0 ++ [0xFF] ++ code16 tote ++ code16 item ++ be 1 drawn ++ be 1 taken ++ [0]
  | .divertMissed tote item drawn =>
    [1, 0xFF] ++ be 4 0 ++ [0xFF] ++ code16 tote ++ code16 item ++ be 1 drawn ++ [0, 0]

/-- A record as Read Deviations returns it (R186). -/
def Deviation.bytes (d : Deviation) : List Byte := be 2 d.number ++ be 4 d.time ++ [d.kind.code] ++ d.kind.bytes

/-- The records of a Read Deviations reply: `count` of them from a start index, oldest first (R155). -/
def DeviationTable.page (d : DeviationTable) (start count : Nat) : List Deviation := (d.records.drop start).take count

/-- The output of Read Deviations (R155, R186). -/
def DeviationTable.readOutput (d : DeviationTable) (start count : Nat) : List Byte :=
  be 1 d.records.length ++ be 2 d.sinceClear ++ be 4 d.lastClear ++ be 1 (d.page start count).length
    ++ (d.page start count).flatMap Deviation.bytes

/-- Read Deviations (R155). -/
def readDeviationsOwner (block : List Byte) (s : State) : State × Reply :=
  let count := fieldAt block 1 1
  if count = 0 ∨ 8 < count then (s, Reply.refuse .badArg)
  else (s, Reply.ok (s.dev.readOutput (fieldAt block 0 1) count))

/-- READ_DEVIATIONS. -/
def execReadDeviations (tx : List Byte) (s : State) : Host.Outcome State Fault Refusal :=
  .next (s.whileUp fun t => t.serve (fixedLength 2) false Reply.refuse tx readDeviationsOwner)

/-- The output of Clear Deviations: the figures before the clear and the new time of last clear (R156, R186). -/
def State.clearOutput (s : State) : List Byte :=
  be 1 s.dev.records.length ++ be 2 s.dev.sinceClear ++ be 4 s.clock

/-- Clear Deviations (R156). -/
def clearDeviationsOwner (_ : List Byte) (s : State) : State × Reply :=
  (s.setDev { records := [], sinceClear := 0, lastClear := s.clock }, Reply.ok s.clearOutput)

/-- CLEAR_DEVIATIONS. -/
def execClearDeviations (tx : List Byte) (s : State) : Host.Outcome State Fault Refusal :=
  .next (s.whileUp fun t => t.serve (fixedLength 0) false Reply.refuse tx clearDeviationsOwner)

/-! ## Set Mode -/

/-- The mode a Set Mode value names, if it is ACTIVE, QUIET or CLOSING (R166, R183). -/
def modeOf (value : Nat) : Option Mode :=
  match value with
  | 2 => some .active
  | 3 => some .closing
  | 4 => some .quiet
  | _ => none

/-- The modes from which Set Mode is accepted (R166, check 2). -/
def Mode.settable : Mode → Bool
  | .active => true
  | .closing => true
  | .quiet => true
  | .loading => false
  | .settling => false
  | .muted => false

/-- An accepted Set Mode (R166). -/
def State.acceptMode (s : State) (m : Mode) : State :=
  if m = s.ctl.mode then s
  else if m = .closing then (s.changeMode .closing true).closingCheck
  else s.changeMode m true

/-- Set Mode (R166). -/
def setModeOwner (block : List Byte) (s : State) : State × Reply :=
  match modeOf (fieldAt block 0 1) with
  | none => (s, Reply.refuse .badArg)
  | some m =>
    if s.ctl.mode.settable = false then (s, Reply.refuse .mode)
    else (s.acceptMode m, Reply.ok [s.ctl.mode.code, (s.acceptMode m).ctl.mode.code])

/-- SET_MODE. -/
def execSetMode (tx : List Byte) (s : State) : Host.Outcome State Fault Refusal :=
  .next (s.whileUp fun t => t.serve (fixedLength 1) false Reply.refuse tx setModeOwner)

/-! ## Write Settings -/

/-- The write of the first eight bytes of a record (R170). -/
def firstAccess (record : List Byte) : WriteAccess := { device := 0x50, address := 0x00, data := record.take 8 }

/-- The write of the last eight bytes of a record (R170). -/
def secondAccess (record : List Byte) : WriteAccess := { device := 0x50, address := 0x08, data := record.drop 8 }

/-- An accepted Write Settings: the loader is WRITING and the first access begins (R170). -/
def State.startWrite (s : State) (g : Settings) : State :=
  s.setLoader { s.loader with
    state := .writing, bus := .writing (firstAccess (settingsRecord g)) (some (secondAccess (settingsRecord g))) }

/-- Write Settings (R170). The ACCEPTED reply has output length 0: no rule gives it an output (DESIGN CHOICE, log 36). -/
def writeSettingsOwner (block : List Byte) (s : State) : State × Reply :=
  if (parseSettings block).inRange = false then (s, Reply.refuse .badArg)
  else if s.loader.state ≠ .idle then (s, Reply.refuse .busy)
  else (s.startWrite (parseSettings block), Reply.refuse .accepted)

/-- WRITE_SETTINGS. -/
def execWriteSettings (tx : List Byte) (s : State) : Host.Outcome State Fault Refusal :=
  .next (s.whileUp fun t => t.serve (fixedLength 12) false Reply.refuse tx writeSettingsOwner)

/-! ## Restart -/

/-- The Restart takes effect as one step (R169), and the start it begins samples the straps (R160, R161). -/
def State.restart (s : State) (straps : BitVec 5) : State :=
  { s with
    ctl := { mode := .loading, station := stationOf straps, settleExpiry := none }
    loader := { active := defaultSettings, outcome := s.loader.outcome, state := .loading, bus := loadAccess }
    bays := emptyBays
    li := LineInterface.stopped
    peers := PeerTracker.cleared
    totes := ToteTracker.cleared
    lane := Lane.cleared
    port := s.port.clearFlags }

/-- A Restart request (R169): its reply, OK with an empty output, is in the buffer before it takes effect. A refused
one is answered as any other request is. -/
def State.restartRequest (s : State) (straps : BitVec 5) (tx : List Byte) : State :=
  if s.port.state = .handling then s.ignoreTransaction tx.length
  else
    match checkRequest (fixedLength 0) (s.ctl.mode == .loading) tx with
    | .error st => (s.beginRequest tx.length).finishRequest (Reply.refuse st)
    | .ok _ => ((s.beginRequest tx.length).finishRequest (Reply.ok [])).restart straps

/-- RESTART. -/
def execRestart (straps : BitVec 5) (tx : List Byte) (s : State) : Host.Outcome State Fault Refusal :=
  .next (s.whileUp fun t => t.restartRequest straps tx)

end Sys2Proof.Machine
end

