-- ==== Sys2Proof/Machine/LaneEvents.lean ====
section
/-! DEFINITION. The events of the bench lane: arrivals (R121, R122), the ends of the pulses (R119, R120), the divert
confirm expiry (R126) and the dwell expiry (R133). -/

namespace Sys2Proof.Machine

/-! ## Arrivals -/

/-- The entry is INBOUND (R118). -/
def LaneEntry.isInbound (e : LaneEntry) : Bool := !e.isAtBench

/-- An entry that an arrival has been matched to at now (R121, step 1). -/
def LaneEntry.arrived (e : LaneEntry) (now : Nat) : LaneEntry := { e with state := .atBench now }

/-- The oldest INBOUND entry of a queue matched to an arrival at now (R121). -/
def matchArrival (now : Nat) : List LaneEntry → List LaneEntry
  | [] => []
  | e :: es => if e.isInbound = true then e.arrived now :: es else e :: matchArrival now es

/-- An arrival (R121, R122). Arrivals are taken from entry to SETTLING on. -/
def State.arrival (s : State) : State :=
  if s.lane.queue.any LaneEntry.isInbound = true then
    (s.setLaneQueue (matchArrival s.clock s.lane.queue)).setFlag .toteAtBench
  else (s.setLane { s.lane with unexpected := satAdd s.lane.unexpected 1 }).setFlag .unexpectedArrival

/-- ARRIVAL (R121): a rise after less than 10 ms of low level is not an arrival. -/
def execArrival (lowMicros : Nat) (s : State) : Host.Outcome State Fault Refusal :=
  .next (s.whileUp fun t => if t.ctl.mode = .loading ∨ lowMicros < arrivalLowMicros then t else t.arrival)

/-! ## Pulses -/

/-- DIVERT_PULSE_END (R119). -/
def execDivertPulseEnd (s : State) : Host.Outcome State Fault Refusal :=
  .next (s.whileUp fun t => t.setLane { t.lane with divert := false })

/-- MERGE_PULSE_END (R120). -/
def execMergePulseEnd (s : State) : Host.Outcome State Fault Refusal :=
  .next (s.whileUp fun t => t.setLane { t.lane with merge := false })

/-! ## Divert confirm expiry -/

/-- The INBOUND entry of a tote whose divert confirm expiry is due (R126). -/
def State.missedEntry (s : State) (tote : ToteId) : Option LaneEntry :=
  s.lane.queue.find? fun e => e.tote == tote && e.isInbound && decide (s.confirmDue e ≤ s.clock)

/-- A missed divert (R126). -/
def State.missDivert (s : State) (e : LaneEntry) : State :=
  (((((s.unpinAll e.allocations).settle e fun x => x.restored e.drawn s.clock).record
    (.divertMissed e.tote e.item e.drawn)).setFlag .divertMissed)).endDeparture e

/-- The divert confirm expiry of a tote's entry is taken, if it is due. -/
def State.takeConfirmExpiry (s : State) (tote : ToteId) : State :=
  match s.missedEntry tote with
  | none => s
  | some e => s.missDivert e

/-- DIVERT_CONFIRM_EXPIRY (R126). -/
def execDivertConfirmExpiry (tote : ToteId) (s : State) : Host.Outcome State Fault Refusal :=
  .next (s.whileUp fun t => t.takeConfirmExpiry tote)

/-! ## Dwell expiry -/

/-- The dwell expiry of an entry is due (R133): AT_BENCH, its stale-reported flag clear, its limit reached. -/
def State.dwellIsDue (s : State) (e : LaneEntry) : Bool :=
  match e.state with
  | .inbound => false
  | .atBench arrival => !e.stale && decide (s.dwellDue arrival ≤ s.clock)

/-- The dwell expiry of a tote's entry is taken, if it is due (R133). -/
def State.takeDwell (s : State) (tote : ToteId) : State :=
  if (s.lane.queue.any fun e => e.tote == tote && s.dwellIsDue e) = true then
    (s.setLaneQueue (s.lane.queue.map fun e =>
      if (e.tote == tote && s.dwellIsDue e) = true then { e with stale := true } else e)).setFlag .laneStale
  else s

/-- DWELL_EXPIRY (R133). -/
def execDwellExpiry (tote : ToteId) (s : State) : Host.Outcome State Fault Refusal :=
  .next (s.whileUp fun t => t.takeDwell tote)

end Sys2Proof.Machine
end

