-- ==== Sys2Proof/Machine/LineEvents.lean ====
section
/-! DEFINITION. The Line Interface's sending (R63 to R67) and receiving (R68 to R70), and what the Peer Tracker and the
Tote Tracker do with a good notice (R77 to R84, R103, R104). -/

namespace Sys2Proof.Machine

/-! ## Sending -/

/-- `s` with the transmitter sending a frame: LDE high, LTXD carrying its cells (R55, R65). -/
def LineInterface.transmit (l : LineInterface) (frame : List Byte) : LineInterface :=
  { l with phase := .sending frame, lde := true, ltxd := .cells }

/-- LDE low and LTXD standing high, in this phase (R55). -/
def LineInterface.release (l : LineInterface) (phase : TxPhase) : LineInterface :=
  { l with phase := phase, lde := false, ltxd := .standingHigh }

/-- The sender field of this station's notices (R57). -/
def State.senderByte (s : State) : Byte := BitVec.ofNat 8 s.ctl.station

/-- The payload of the head notice as its attempt begins: a marker is composed at now (R63, step 2). -/
def State.payloadNow (s : State) (n : Notice) : Payload := n.payload.getD (.demand s.compose)

/-- The first attempt of the head notice begins (R63): it takes the sequence number and its composed payload. -/
def State.firstAttempt (s : State) (n : Notice) (rest : List Notice) : State :=
  s.setLi ({ s.li with
    seq := s.li.seq + 1
    queue := { payload := some (s.payloadNow n), sequence := some s.li.seq, attempts := 1 } :: rest }.transmit
      (frameBytes s.senderByte s.li.seq (s.payloadNow n)))

/-- A later attempt of the head notice begins (R63): the same sequence number and payload, the attempt count one
higher. -/
def State.laterAttempt (s : State) (n : Notice) (rest : List Notice) : State :=
  s.setLi ({ s.li with queue := { n with attempts := n.attempts + 1 } :: rest }.transmit
    (frameBytes s.senderByte (n.sequence.getD 0) (s.payloadNow n)))

/-- The Line Interface sees the line idle (R56); the first time since its start, the line stops counting as busy
(R74). -/
def State.seeIdle (s : State) : State := s.setLi { s.li with idleSeen := true }

/-- An attempt of the head notice begins on an idle line, if one can (R63): no attempt, jam or backoff under way, the
station not MUTED, and a notice queued. -/
def State.beginAttempt (s : State) : State :=
  if s.ctl.mode = .muted ∨ s.li.phase ≠ .waiting then s
  else
    match s.li.queue with
    | [] => s
    | n :: rest => if n.attempts = 0 then s.firstAttempt n rest else s.laterAttempt n rest

/-- The Line Interface looks at the line to begin an attempt (R63). Stopped, in LOADING, or with the line busy it does
nothing; an idle line may be the first it sees since its start, and the JOIN is sent on that one (R74, log 37). -/
def State.attempt (s : State) (lineIdle : Bool) : State :=
  if lineIdle = false ∨ s.ctl.mode = .loading then s else s.seeIdle.beginAttempt

/-- ATTEMPT (R63). -/
def execAttempt (lineIdle : Bool) (s : State) : Host.Outcome State Fault Refusal :=
  .next (s.whileUp fun t => t.attempt lineIdle)

/-- A completed DEMAND's entries become the last-sent demand list (R65, R88). -/
def PeerTracker.afterSent (p : PeerTracker) : Option Payload → PeerTracker
  | some (.demand entries) => { p with lastSent := entries.map DemandEntry.sent }
  | some (.join _ _ _) => p
  | some (.draw _ _ _ _ _) => p
  | some (.tally _ _ _ _) => p
  | none => p

/-- The notice being sent is complete (R65). -/
def State.completeNotice (s : State) : State :=
  match s.li.phase, s.li.queue with
  | .sending _, n :: rest =>
    ((s.setLi ({ s.li with queue := rest }.release .waiting)).countLine LineCounters.incSent).setPeers
      (s.peers.afterSent n.payload)
  | _, _ => s

/-- NOTICE_COMPLETE (R65). -/
def execNoticeComplete (s : State) : Host.Outcome State Fault Refusal := .next (s.whileUp State.completeNotice)

/-- A collision is detected (R66): the frame stops and the jam begins, LDE still high. -/
def State.collide (s : State) : State :=
  match s.li.phase with
  | .sending _ => s.setLi { s.li with phase := .jamming }
  | .waiting => s
  | .jamming => s
  | .backoff _ => s

/-- COLLISION (R66). -/
def execCollision (s : State) : Host.Outcome State Fault Refusal := .next (s.whileUp State.collide)

/-- The backoff draw r for an attempt count, in the range 0..2^min(n, 6) − 1 (R66): a free value (log 8). -/
def State.backoffSlots (s : State) (n : Nat) : Nat :=
  Config.backoffRandom s.draws s.li.rng.station s.li.rng.clock s.li.rng.draws % 2 ^ min n 6

/-- The head notice enters backoff (R66). -/
def State.enterBackoff (s : State) (n : Nat) : State :=
  (s.setLi ({ s.li with rng := { s.li.rng with draws := s.li.rng.draws + 1 } }.release
    (.backoff (s.backoffSlots n)))).setDraws (s.draws + 1)

/-- The head notice is dropped after its eighth attempt (R67). -/
def State.dropHead (s : State) (rest : List Notice) : State :=
  ((s.setLi ({ s.li with queue := rest }.release .waiting)).countLine (·.addDropped 1)).setFlag .noticeLost

/-- The jam ends (R66, R67). -/
def State.endJam (s : State) : State :=
  match s.li.phase, s.li.queue with
  | .jamming, n :: rest =>
    if n.attempts < maxAttempts then (s.countLine LineCounters.incCollisions).enterBackoff n.attempts
    else (s.countLine LineCounters.incCollisions).dropHead rest
  | _, _ => s

/-- JAM_END (R66, R67). -/
def execJamEnd (s : State) : Host.Outcome State Fault Refusal := .next (s.whileUp State.endJam)

/-- Backoff ends (R66): the notice waits for an idle line. -/
def State.endBackoff (s : State) : State :=
  match s.li.phase with
  | .backoff _ => s.setLi { s.li with phase := .waiting }
  | .waiting => s
  | .jamming => s
  | .sending _ => s

/-- BACKOFF_END (R66). -/
def execBackoffEnd (s : State) : Host.Outcome State Fault Refusal := .next (s.whileUp State.endBackoff)

/-! ## Receiving -/

/-- The receiver takes frames: the Line Interface runs (R74), and the part itself is not transmitting (R68). -/
def State.receives (s : State) : Bool := s.ctl.mode != .loading && !s.li.lde

/-- A CRC-bad frame is counted, and may set LINE_DEGRADED (R72). -/
def State.countCrcBad (s : State) : State :=
  let t := s.countLine LineCounters.incCrcBad
  if s.loader.active.errorThreshold ≤ t.li.counters.crcBad ∧ s.li.degraded = false then
    (t.setLi { t.li with degraded := true }).setFlag .lineDegraded
  else t

/-- Entry to MUTED (R70 step 2, R168): the settle expiry is discarded, and R165 follows. -/
def State.mute (s : State) : State :=
  if s.ctl.mode = .muted then s else (s.setCtl { s.ctl with settleExpiry := none }).changeMode .muted false

/-- Every notice leaves the queue, counted dropped, with NOTICE_LOST if there was one (R70, step 3). -/
def State.emptyQueue (s : State) : State :=
  if s.li.queue = [] then s.setLi (s.li.release .waiting)
  else
    ((s.setLi ({ s.li with queue := [] }.release .waiting)).countLine (·.addDropped s.li.queue.length)).setFlag
      .noticeLost

/-- An address clash (R70). -/
def State.clash (s : State) : State := (s.mute.emptyQueue).setFlag .stationClash

/-- The entries of a DEMAND taken one at a time (R82, step 2), with the bays and lines already taken from the same
notice. -/
def State.takeEntries (s : State) (p : Nat) : List DemandEntry → List (BitVec 4 × BitVec 4) → State
  | [], _ => s
  | e :: es, taken =>
    if e.units = 0 ∨ e.item = 0 ∨ taken.contains (e.bay, e.line) = true then s.takeEntries p es taken
    else (s.insertHeard { peer := p, entry := e, timeHeard := s.clock }).takeEntries p es ((e.bay, e.line) :: taken)

/-- A good JOIN after the roster update (R80). -/
def State.takeJoin (s : State) (p : Nat) : State := (s.removeHeard p).offerMarker

/-- A good DEMAND after the roster update (R82). -/
def State.takeDemand (s : State) (p : Nat) (entries : List DemandEntry) : State :=
  (s.removeHeard p).takeEntries p entries []

/-- A tote entry set from a notice (R103, R104). -/
def noticedEntry (tote : ToteId) (serial : Serial) (item : ItemCode) (remaining : Byte) (now : Nat) : ToteEntry :=
  { tote := tote, serial := serial, item := item, remaining := remaining.toNat, uncertain := false, touched := now }

/-- A heard DRAW at the Tote Tracker (R103). -/
def State.heardDraw (s : State) (tote : ToteId) (serial : Serial) (item : ItemCode) (units remaining : Byte) : State :=
  if tote = 0 ∨ item = 0 then s
  else
    match s.toteEntry tote with
    | none => s.putEntry (noticedEntry tote serial item remaining s.clock)
    | some e =>
      match serialOrder serial e.serial with
      | .same => s.putEntry { e with remaining := e.remaining - units.toNat, touched := s.clock }
      | .newer => s.putEntry (noticedEntry tote serial item remaining s.clock)
      | .older => s

/-- A heard TALLY at the Tote Tracker (R104). -/
def State.heardTally (s : State) (tote : ToteId) (serial : Serial) (item : ItemCode) (remaining : Byte) : State :=
  if tote = 0 ∨ item = 0 then s
  else
    match s.toteEntry tote with
    | none => s.putEntry (noticedEntry tote serial item remaining s.clock)
    | some e =>
      if serialOrder serial e.serial = .older then s
      else s.putEntry (noticedEntry tote serial item remaining s.clock)

/-- A notice is a JOIN (R77). -/
def Payload.isJoin : Payload → Bool
  | .join _ _ _ => true
  | .demand _ => false
  | .draw _ _ _ _ _ => false
  | .tally _ _ _ _ => false

/-- A good notice from a peer is delivered: the Peer Tracker first, then the Tote Tracker (R69, R77). -/
def State.deliver (s : State) (p : Nat) (sequence : Byte) (payload : Payload) : State :=
  let t := s.rosterUpdate p payload.isJoin sequence
  match payload with
  | .join _ _ _ => t.takeJoin p
  | .demand entries => t.takeDemand p entries
  | .draw tote serial item units remaining => t.heardDraw tote serial item units remaining
  | .tally tote serial item remaining => t.heardTally tote serial item remaining

/-- A good notice: counted, then an address clash or delivered (R68 to R70). -/
def State.goodNotice (s : State) (sender sequence : Byte) (payload : Payload) : State :=
  let t := s.countLine LineCounters.incGood
  if sender.toNat = s.ctl.station then t.clash else t.deliver sender.toNat sequence payload

/-- A received frame of this class is counted and, if good, taken (R68, R69). -/
def State.takeFrame (s : State) : FrameClass → State
  | .fragment => s.countLine LineCounters.incFragments
  | .crcBad => s.countCrcBad
  | .malformed => s.countLine LineCounters.incMalformed
  | .good sender sequence payload => s.goodNotice sender sequence payload

/-- The class of the frame that a notice with these fields makes (R68): its form is good but for a sender outside
1..32 or more than 16 DEMAND entries, which check 3 refuses. -/
def noticeClass (sender sequence : Byte) (payload : Payload) : FrameClass :=
  if goodSender sender = true ∧ payload.wellFormed = true then .good sender sequence payload else .malformed

/-- Activity on LRXD that makes a frame of this class ends in an idle line (R68). Where no idle line has been seen since
the start, it did not begin after one, so it is no frame: it is not counted, and the idle line it ends in is the first
(R74, log 37). -/
def State.receive (s : State) (c : FrameClass) : State :=
  if s.receives = false then s else if s.li.idleSeen = false then s.seeIdle else s.takeFrame c

/-- BAD_FRAME (R68): the receiver decodes the frame's cells, and does with the bits what their classification says. -/
def execBadFrame (levels : List Bool) (s : State) : Host.Outcome State Fault Refusal :=
  .next (s.whileUp fun t => t.receive (classify (decodeCells levels)))

/-- JOIN_NOTICE (R80). -/
def execJoinNotice (sender sequence laneCapacity bayCount revision : Byte) (s : State) :
    Host.Outcome State Fault Refusal :=
  .next (s.whileUp fun t => t.receive (noticeClass sender sequence (.join laneCapacity bayCount revision)))

/-- DEMAND_NOTICE (R82). -/
def execDemandNotice (sender sequence : Byte) (entries : List DemandEntry) (s : State) :
    Host.Outcome State Fault Refusal :=
  .next (s.whileUp fun t => t.receive (noticeClass sender sequence (.demand entries)))

/-- DRAW_NOTICE (R103). -/
def execDrawNotice (sender sequence : Byte) (tote : ToteId) (serial : Serial) (item : ItemCode)
    (units remaining : Byte) (s : State) : Host.Outcome State Fault Refusal :=
  .next (s.whileUp fun t => t.receive (noticeClass sender sequence (.draw tote serial item units remaining)))

/-- TALLY_NOTICE (R104). -/
def execTallyNotice (sender sequence : Byte) (tote : ToteId) (serial : Serial) (item : ItemCode) (remaining : Byte)
    (s : State) : Host.Outcome State Fault Refusal :=
  .next (s.whileUp fun t => t.receive (noticeClass sender sequence (.tally tote serial item remaining)))

/-! ## Peer expiries -/

/-- The silence expiry of a station number is due (R79). -/
def State.silenceIsDue (s : State) (p : Nat) : Bool :=
  decide (1 ≤ p) && decide (p ≤ 32) && (s.peer p).state == .present
    && (s.peer p).lastHeard.any fun t => decide (s.silenceDue t ≤ s.clock)

/-- The silence expiry of a peer is taken, if it is due (R79). -/
def State.takeSilence (s : State) (p : Nat) : State :=
  if s.silenceIsDue p = true then (s.setPeer p { s.peer p with state := .silent }).removeHeard p else s

/-- SILENCE_EXPIRY (R79). -/
def execSilenceExpiry (peer : Nat) (s : State) : Host.Outcome State Fault Refusal :=
  .next (s.whileUp fun t => t.takeSilence peer)

/-- The refresh expiry after one at this clock value (R89): none after one at the clock's largest value. -/
def State.nextRefresh (s : State) (e : Nat) : Option Nat :=
  if e = clockMax then none else some (limitClock (e + s.loader.active.refresh * 10))

/-- The refresh expiry is taken, if it is due (R89); no marker is offered in MUTED, by R62. -/
def State.takeRefresh (s : State) : State :=
  match s.peers.refreshExpiry with
  | none => s
  | some e =>
    if e ≤ s.clock then (s.setPeers { s.peers with refreshExpiry := s.nextRefresh e }).offerMarker else s

/-- REFRESH_EXPIRY (R89). -/
def execRefreshExpiry (s : State) : Host.Outcome State Fault Refusal := .next (s.whileUp State.takeRefresh)

end Sys2Proof.Machine
end

