-- ==== Sys2Proof/Machine/Reader.lean ====
section
/-! DEFINITION. The reader port and the share decision: tag reads (R95 to R97, R102) and what follows a good one (R109
to R116). -/

namespace Sys2Proof.Machine

/-! ## The share decision -/

/-- A candidate of the share walk (R111): an own line, or units a peer has asked for. -/
structure Candidate where
  key : RankKey
  units : Nat
  /-- The own line's bay and line index; absent for a heard entry. -/
  own : Option (BayNo × Nat)
deriving DecidableEq, Repr

/-- The own candidates for an item (R111). -/
def State.ownCandidates (s : State) (item : ItemCode) : List Candidate :=
  (s.advertisedLines.filter fun o => o.line.activeItem == item).map fun o =>
    { key := o.key s.ctl.station s.clock, units := o.line.needed, own := some (o.bay, o.index) }

/-- The heard candidates for an item (R86, R111). -/
def State.heardCandidates (s : State) (item : ItemCode) : List Candidate :=
  (s.peers.heard.filter fun h => h.entry.item == item).map fun h =>
    { key := h.key, units := h.entry.units.toNat, own := none }

/-- The candidate list, in ranking order (R111). -/
def State.candidates (s : State) (item : ItemCode) : List Candidate :=
  rankSort Candidate.key (s.ownCandidates item ++ s.heardCandidates item)

/-- The share walk (R112, R113) from a place in the list, with the units left and the number of own entries granted
so far: the grants to own entries, in the order the walk makes them. -/
def walk : List Candidate → (left granted : Nat) → List Allocation
  | [], _, _ => []
  | c :: cs, left, granted =>
    if left = 0 then []
    else
      match c.own with
      | none => walk cs (left - min c.units left) granted
      | some bl =>
        if granted < maxAllocations then
          { bay := bl.1, line := bl.2, granted := min c.units left } :: walk cs (left - min c.units left) (granted + 1)
        else walk cs left granted

/-- Units granted in all. -/
def grantedSum (as : List Allocation) : Nat := (as.map (·.granted)).sum

/-- The cut of R114 on grants listed from the lowest rank up, with the units still to take away. -/
def cutUp : List Allocation → (excess : Nat) → List Allocation
  | [], _ => []
  | a :: as, excess =>
    if a.granted ≤ excess then cutUp as (excess - a.granted)
    else { a with granted := a.granted - excess } :: as

/-- The grants cut to the draw limit (R114). -/
def cutToLimit (limit : Nat) (as : List Allocation) : List Allocation :=
  if limit < grantedSum as then (cutUp as.reverse (grantedSum as - limit)).reverse else as

/-- The available units N of a tote entry (R110). -/
def ToteEntry.available (e : ToteEntry) : Nat := if e.uncertain = true then (e.remaining + 1) / 2 else e.remaining

/-- The allocations the share decision arrives at for a tote entry (R110 to R114). -/
def State.share (s : State) (e : ToteEntry) : List Allocation :=
  cutToLimit s.loader.active.drawLimit (walk (s.candidates e.item) e.available 0)

/-- A divert is possible at this tag read (R109). -/
def State.mayDivert (s : State) (laneFull : Bool) (e : ToteEntry) : Bool :=
  (s.ctl.mode == .active || s.ctl.mode == .closing) && decide (s.lane.queue.length < s.loader.active.laneCapacity)
    && !laneFull && decide (0 < e.remaining)

/-- The DRAW of a divert (R115). -/
def ToteEntry.drawPayload (e : ToteEntry) (drawn : Nat) : Payload :=
  .draw e.tote e.serial e.item (BitVec.ofNat 8 drawn) (BitVec.ofNat 8 (e.remaining - drawn))

/-- The lane entry of a divert (R116, R118). -/
def State.newLaneEntry (s : State) (e : ToteEntry) (as : List Allocation) : LaneEntry :=
  { tote := e.tote, serial := e.serial, item := e.item, drawn := grantedSum as, allocations := as, state := .inbound,
    divertTime := s.clock, stale := false }

/-- The Lane Controller's part of a divert: the entry joins at the tail and DIVERT is driven high (R116, R119). -/
def State.joinLane (s : State) (l : LaneEntry) : State :=
  s.setLane { s.lane with queue := s.lane.queue ++ [l], divert := true }

/-- The tote's count after an own draw (R106). -/
def State.subtractDraw (s : State) (e : ToteEntry) (drawn : Nat) : State :=
  s.putEntry { e with remaining := e.remaining - drawn, touched := s.clock }

/-- A divert, its DRAW having been taken by the queue (R116). -/
def State.divert (s : State) (e : ToteEntry) (as : List Allocation) : State :=
  (((as.foldl State.pin (s.joinLane (s.newLaneEntry e as))).reevaluate (touchedBays as)).subtractDraw e
    (grantedSum as)).changeCheck

/-- The share decision on a tote entry (R109 to R116). -/
def State.shareDecision (s : State) (laneFull : Bool) (e : ToteEntry) : State :=
  if s.mayDivert laneFull e = false ∨ grantedSum (s.share e) = 0 then s
  else
    match s.offerDraw (e.drawPayload (grantedSum (s.share e))) with
    | none => s
    | some t => t.divert e (s.share e)

/-! ## Tag reads -/

/-- The tote entry that a good tag read creates or sets (R102). -/
def taggedEntry (held : Option ToteEntry) (t : Tag) (now : Nat) : ToteEntry :=
  match held with
  | none => { tote := t.tote, serial := t.serial, item := t.item, remaining := t.fill.toNat, uncertain := false,
              touched := now }
  | some e =>
    if e.serial = t.serial then { e with item := t.item, touched := now }
    else { tote := t.tote, serial := t.serial, item := t.item, remaining := t.fill.toNat, uncertain := false,
           touched := now }

/-- A good tag read: counted, the table updated, the share decision made (R96, R97, R102, R109). -/
def State.goodRead (s : State) (laneFull : Bool) (t : Tag) : State :=
  let e := taggedEntry (s.toteEntry t.tote) t s.clock
  ((s.setTotes { s.totes with good := satAdd s.totes.good 1 }).putEntry e).shareDecision laneFull e

/-- A malformed reader frame is counted (R97). -/
def State.malformedRead (s : State) : State :=
  s.setTotes { s.totes with malformed := satAdd s.totes.malformed 1 }

/-- A duplicate read is counted (R97). -/
def State.duplicateRead (s : State) : State :=
  s.setTotes { s.totes with duplicate := satAdd s.totes.duplicate 1 }

/-- The tag of a complete frame that passes checks 1 to 4 of R96, or none where one fails: no character with a framing
error, and its bytes a good tag. -/
def tagOfFrame (frame : List ReaderChar) : Option Tag :=
  if frame.all (·.stop) = true then parseTag (frame.map (·.data)) else none

/-- A complete reader frame (R96). -/
def State.readerFrame (s : State) (frame : List ReaderChar) (laneFull : Bool) : State :=
  match tagOfFrame frame with
  | none => s.malformedRead
  | some t => if s.inLane t.tote = true then s.duplicateRead else s.goodRead laneFull t

/-! ## The reader port decoder -/

/-- `s` with the reader port decoder replaced. -/
def State.setDecoder (s : State) (d : ReaderDecoder) : State := s.setTotes { s.totes with decoder := d }

/-- RDRX has been idle for 2 ms (R95, R96): a decoder that has started is ready for a frame, and a short frame or an
overlong tail ends, one malformed read. -/
def State.readerIdle (s : State) : State :=
  match s.totes.decoder with
  | .stopped => s
  | .waiting => s.setDecoder (.assembling [])
  | .assembling [] => s
  | .assembling (_ :: _) => (s.setDecoder (.assembling [])).malformedRead
  | .taken false => s.setDecoder (.assembling [])
  | .taken true => (s.setDecoder (.assembling [])).malformedRead

/-- A character is received (R95): it joins the frame in assembly, whose eighth is the tag read; before the first idle
it belongs to no frame, and after the eighth byte to an overlong tail. -/
def State.readerCharacter (s : State) (laneFull : Bool) (c : ReaderChar) : State :=
  match s.totes.decoder with
  | .stopped => s
  | .waiting => s
  | .assembling frame =>
    if (frame ++ [c]).length < readerFrameBytes then s.setDecoder (.assembling (frame ++ [c]))
    else (s.setDecoder (.taken false)).readerFrame (frame ++ [c]) laneFull
  | .taken _ => s.setDecoder (.taken true)

/-- One event on RDRX. -/
def State.readerEvent (laneFull : Bool) (s : State) : ReaderEvent → State
  | .idle => s.readerIdle
  | .character c => s.readerCharacter laneFull c

/-- What RDRX brought, one event after another (R95). -/
def State.readerActivity (s : State) (activity : List ReaderEvent) (laneFull : Bool) : State :=
  activity.foldl (State.readerEvent laneFull) s

/-- TAG_READ (R96): the decoder takes what RDRX brought and then the frame's eighth byte (log 33). -/
def execTagRead (earlier : List ReaderEvent) (last : ReaderChar) (laneFull : Bool) (s : State) :
    Host.Outcome State Fault Refusal :=
  .next (s.whileUp fun t => (t.readerActivity earlier laneFull).readerCharacter laneFull last)

/-- A short frame or an overlong tail ends (R95, R96): one malformed read. The command carries none of its bytes; before
the first idle after a start they belong to no frame, and that idle is this one (log 33). -/
def State.endShortFrame (s : State) : State :=
  match s.totes.decoder with
  | .stopped => s
  | .waiting => s.setDecoder (.assembling [])
  | .assembling _ => (s.setDecoder (.assembling [])).malformedRead
  | .taken _ => (s.setDecoder (.assembling [])).malformedRead

/-- SHORT_READER_FRAME (R95, R96). -/
def execShortReaderFrame (s : State) : Host.Outcome State Fault Refusal := .next (s.whileUp State.endShortFrame)

end Sys2Proof.Machine
end

