-- ==== Sys2Proof/Machine/StartUp.lean ====
section
/-! DEFINITION. Resets, the settings load, entry to SETTLING, the clock, and the background write of the settings
(R159 to R164, R170). -/

namespace Sys2Proof.Machine

/-! ## Reset -/

/-- HARD_RESET (R161): every block at its hard-reset values, the straps sampled, the load begun. The queue of commands
and the free-value counter are not the part's and stay (log 21). -/
def execHardReset (straps : BitVec 5) (s : State) : Host.Outcome State Fault Refusal :=
  .next { State.afterReset straps with pending := s.pending, draws := s.draws }

/-- While RESET is low (R161): DIVERT, MERGE, READY, ATTN and LDE low, LTXD high, SCL and SDA released; what was being
sent or written is cut off. Registers no pin shows keep their values until the release sets them (log 22). -/
def State.lowerReset (s : State) : State :=
  { s with
    resetLow := true
    loader := { s.loader with bus := .released }
    li := { s.li with phase := .waiting, lde := false, ltxd := .standingHigh }
    lane := { s.lane with divert := false, merge := false }
    port := { s.port with state := .idle, ready := false, attn := false } }

/-- RESET_LOW (R161). -/
def execResetLow (s : State) : Host.Outcome State Fault Refusal := .next s.lowerReset

/-! ## The clock -/

/-- CLOCK_TICK (R159): the clock rises by one until its largest value, and holds there. -/
def execClockTick (s : State) : Host.Outcome State Fault Refusal :=
  .next (s.whileUp fun t => t.setClock (limitClock (t.clock + 1)))

/-! ## The settings load -/

/-- The JOIN of a start (R59, R62). -/
def State.joinPayload (s : State) : Payload :=
  .join (BitVec.ofNat 8 s.loader.active.laneCapacity) 8 (BitVec.ofNat 8 partRevision)

/-- Entry to SETTLING (R164): the Line Interface starts with no idle line seen yet (R74) and seeds its random source, the
JOIN is queued, the refresh and
settle expiries are set, and the reader port decoder starts (R95). The taking of arrivals follows the mode. -/
def State.enterSettling (s : State) : State :=
  { s with
    ctl := { s.ctl with
      mode := .settling, settleExpiry := some (limitClock (s.clock + s.loader.active.settleTime * 10)) }
    loader := { s.loader with state := .idle, bus := .released }
    li := { s.li with
      queue := s.li.queue ++ [Notice.fresh (some s.joinPayload)]
      idleSeen := false
      rng := { station := s.ctl.station, clock := s.clock, draws := 0 } }
    peers := { s.peers with refreshExpiry := some (limitClock (s.clock + s.loader.active.refresh * 10)) }
    totes := { s.totes with decoder := .waiting } }

/-- The active settings and load outcome of a load, with SETTINGS_NOTE and its cause (R163). -/
def State.loadOutcome (s : State) (r : Settings × LoadOutcome) : State :=
  let t := s.setLoader { s.loader with active := r.1, outcome := r.2 }
  match r.2 with
  | .loaded => t
  | .clamped => t.setNote .clamped
  | .defaulted => t.setNote .defaulted

/-- The load ends with these settings and this outcome (R163, R164). A load is under way only while the loader is
LOADING; otherwise no such event can be (log 2). -/
def State.endLoad (s : State) (r : Settings × LoadOutcome) : State :=
  if s.loader.state = .loading ∧ s.ctl.mode = .loading then (s.loadOutcome r).enterSettling else s

/-- SETTINGS_LOAD (R163). -/
def execSettingsLoad (record : Vector Byte 16) (s : State) : Host.Outcome State Fault Refusal :=
  .next (s.whileUp fun t => t.endLoad (formSettings record.toList))

/-- SETTINGS_LOAD_TIMEOUT (R162, R163). -/
def execSettingsLoadTimeout (s : State) : Host.Outcome State Fault Refusal :=
  .next (s.whileUp fun t => t.endLoad (defaultSettings, .defaulted))

/-- The settle expiry is due (R164). -/
def State.settleDue (s : State) : Bool :=
  s.ctl.mode == .settling && s.ctl.settleExpiry.any fun e => decide (e ≤ s.clock)

/-- The settle expiry is taken (R164, R165). -/
def State.takeSettle (s : State) : State :=
  if s.settleDue = true then (s.setCtl { s.ctl with settleExpiry := none }).changeMode .active false else s

/-- SETTLE_EXPIRY (R164). -/
def execSettleExpiry (s : State) : Host.Outcome State Fault Refusal := .next (s.whileUp State.takeSettle)

/-! ## The background write -/

/-- A write access completes (R170). -/
def State.endWriteAccess (s : State) : State :=
  match s.loader.bus with
  | .writing _ (some next) => s.setLoader { s.loader with bus := .writing next none }
  | .writing _ none => (s.setLoader { s.loader with state := .idle, bus := .released }).setFlag .settingsWritten
  | .released => s
  | .reading _ _ _ => s

/-- WRITE_ACCESS_END (R170). -/
def execWriteAccessEnd (s : State) : Host.Outcome State Fault Refusal := .next (s.whileUp State.endWriteAccess)

/-- A write access times out (R170): it is abandoned, and the second is not attempted if the first failed. -/
def State.timeoutWriteAccess (s : State) : State :=
  match s.loader.bus with
  | .writing _ _ => (s.setLoader { s.loader with state := .idle, bus := .released }).setFlag .settingsFailed
  | .released => s
  | .reading _ _ _ => s

/-- WRITE_ACCESS_TIMEOUT (R170). -/
def execWriteAccessTimeout (s : State) : Host.Outcome State Fault Refusal :=
  .next (s.whileUp State.timeoutWriteAccess)

end Sys2Proof.Machine
end

