-- ==== Sys2Proof/Machine/Dispatch.lean ====
section
/-! DEFINITION. One arm for each command of the block, in the order of spec/opcode_table.json. -/

namespace Sys2Proof.Machine

/-- The command's effect on everything but the queue. -/
def exec (i : Instr) (s : State) : Host.Outcome State Fault Refusal :=
  match i with
  | .hardReset straps => Sys2Proof.Machine.execHardReset straps s
  | .settingsLoad record => Sys2Proof.Machine.execSettingsLoad record s
  | .settingsLoadTimeout => Sys2Proof.Machine.execSettingsLoadTimeout s
  | .settleExpiry => Sys2Proof.Machine.execSettleExpiry s
  | .readIdentity tx => Sys2Proof.Machine.execReadIdentity tx s
  | .readStatus tx => Sys2Proof.Machine.execReadStatus tx s
  | .readClock tx => Sys2Proof.Machine.execReadClock tx s
  | .readEvents tx => Sys2Proof.Machine.execReadEvents tx s
  | .setEventEnables tx => Sys2Proof.Machine.execSetEventEnables tx s
  | .loadItems tx => Sys2Proof.Machine.execLoadItems tx s
  | .removeItem tx => Sys2Proof.Machine.execRemoveItem tx s
  | .openBuild tx => Sys2Proof.Machine.execOpenBuild tx s
  | .cancelBuild tx => Sys2Proof.Machine.execCancelBuild tx s
  | .sealBuild tx => Sys2Proof.Machine.execSealBuild tx s
  | .holdBays tx => Sys2Proof.Machine.execHoldBays tx s
  | .releaseBays tx => Sys2Proof.Machine.execReleaseBays tx s
  | .readBay tx => Sys2Proof.Machine.execReadBay tx s
  | .confirmPick tx => Sys2Proof.Machine.execConfirmPick tx s
  | .returnTote tx => Sys2Proof.Machine.execReturnTote tx s
  | .readLane laneFull tx => Sys2Proof.Machine.execReadLane laneFull tx s
  | .readDeviations tx => Sys2Proof.Machine.execReadDeviations tx s
  | .clearDeviations tx => Sys2Proof.Machine.execClearDeviations tx s
  | .setMode tx => Sys2Proof.Machine.execSetMode tx s
  | .readPeers tx => Sys2Proof.Machine.execReadPeers tx s
  | .readLineCounters tx => Sys2Proof.Machine.execReadLineCounters tx s
  | .readSettings tx => Sys2Proof.Machine.execReadSettings tx s
  | .writeSettings tx => Sys2Proof.Machine.execWriteSettings tx s
  | .writeAccessEnd => Sys2Proof.Machine.execWriteAccessEnd s
  | .writeAccessTimeout => Sys2Proof.Machine.execWriteAccessTimeout s
  | .restart straps tx => Sys2Proof.Machine.execRestart straps tx s
  | .fetchTransaction clocked => Sys2Proof.Machine.execFetchTransaction clocked s
  | .tagRead earlier last laneFull => Sys2Proof.Machine.execTagRead earlier last laneFull s
  | .shortReaderFrame => Sys2Proof.Machine.execShortReaderFrame s
  | .arrival lowMicros => Sys2Proof.Machine.execArrival lowMicros s
  | .divertPulseEnd => Sys2Proof.Machine.execDivertPulseEnd s
  | .mergePulseEnd => Sys2Proof.Machine.execMergePulseEnd s
  | .divertConfirmExpiry tote => Sys2Proof.Machine.execDivertConfirmExpiry tote s
  | .dwellExpiry tote => Sys2Proof.Machine.execDwellExpiry tote s
  | .chillWindowExpiry bay => Sys2Proof.Machine.execChillWindowExpiry bay s
  | .deadlineExpiry bay => Sys2Proof.Machine.execDeadlineExpiry bay s
  | .substituteWaitExpiry bay line => Sys2Proof.Machine.execSubstituteWaitExpiry bay line s
  | .silenceExpiry peer => Sys2Proof.Machine.execSilenceExpiry peer s
  | .refreshExpiry => Sys2Proof.Machine.execRefreshExpiry s
  | .attempt lineIdle => Sys2Proof.Machine.execAttempt lineIdle s
  | .noticeComplete => Sys2Proof.Machine.execNoticeComplete s
  | .collision => Sys2Proof.Machine.execCollision s
  | .jamEnd => Sys2Proof.Machine.execJamEnd s
  | .backoffEnd => Sys2Proof.Machine.execBackoffEnd s
  | .badFrame levels => Sys2Proof.Machine.execBadFrame levels s
  | .joinNotice sender sequence laneCapacity bayCount revision => Sys2Proof.Machine.execJoinNotice sender sequence laneCapacity bayCount revision s
  | .demandNotice sender sequence entries => Sys2Proof.Machine.execDemandNotice sender sequence entries s
  | .drawNotice sender sequence tote serial item units remaining => Sys2Proof.Machine.execDrawNotice sender sequence tote serial item units remaining s
  | .tallyNotice sender sequence tote serial item remaining => Sys2Proof.Machine.execTallyNotice sender sequence tote serial item remaining s
  | .clockTick => Sys2Proof.Machine.execClockTick s
  | .resetLow => Sys2Proof.Machine.execResetLow s
  | .unknownRequestCode code tx => Sys2Proof.Machine.execUnknownRequestCode code tx s

end Sys2Proof.Machine
end

