-- ==== Sys2Proof/Safety.lean ====
section
/-! DEFINITION. The terms claims use: what a claim says of the rest of the state, when the bench port listens, what a
request's answer leaves, the 24 requests as R185 lists them, what a pick leaves of a build, and the invariants of the
part. -/

namespace Sys2Proof.Machine

/-! ## Frames -/

/-- The fields of State, by name. -/
inductive Block where
  | pending | resetLow | clock | ctl | loader | items | bays | li | peers | totes | lane | dev | port | draws
deriving DecidableEq, Repr

/-- This field is the same in both states. -/
def Block.same (s t : State) : Block → Prop
  | .pending => t.pending = s.pending
  | .resetLow => t.resetLow = s.resetLow
  | .clock => t.clock = s.clock
  | .ctl => t.ctl = s.ctl
  | .loader => t.loader = s.loader
  | .items => t.items = s.items
  | .bays => t.bays = s.bays
  | .li => t.li = s.li
  | .peers => t.peers = s.peers
  | .totes => t.totes = s.totes
  | .lane => t.lane = s.lane
  | .dev => t.dev = s.dev
  | .port => t.port = s.port
  | .draws => t.draws = s.draws

/-- From `s` to `t` no field changes but those named. -/
def State.changedOnly (s t : State) (bs : List Block) : Prop := ∀ b : Block, b ∉ bs → b.same s t

/-- The flag is set (R180). -/
def EventFlag.isSet (f : EventFlag) (p : BenchPort) : Bool := p.flags.getLsbD f.position

/-- From `p` to `p'` no flag is cleared, none is set but those named, and the cause and the enables stay. -/
def BenchPort.onlyRaises (p p' : BenchPort) (fs : List EventFlag) : Prop :=
  p'.cause = p.cause ∧ p'.enables = p.enables ∧ (∀ f : EventFlag, f.isSet p = true → f.isSet p' = true)
    ∧ ∀ f : EventFlag, f.isSet p' = true → f.isSet p = true ∨ f ∈ fs

/-- From `p` to `p'` the transaction under way, the reply buffer, READY and MISO stay. -/
def BenchPort.keepsReply (p p' : BenchPort) : Prop :=
  p'.state = p.state ∧ p'.reply = p.reply ∧ p'.ready = p.ready ∧ p'.miso = p.miso

/-- `l'` is `l`, or `l` with a DEMAND marker taken at the tail of its queue (R62). -/
def LineInterface.withMarker (l l' : LineInterface) : Prop :=
  l' = l ∨ l' = { l with queue := l.queue ++ [Notice.fresh none] }

/-- The record is made by a substitute trial (R152). -/
def DeviationKind.isTrial : DeviationKind → Bool
  | .substituted _ _ _ _ _ _ => true
  | .substituteExhausted _ _ _ => true
  | .chillLapse _ _ => false
  | .deadlineMissed _ _ => false
  | .shortTote _ _ _ _ => false
  | .divertMissed _ _ _ => false

/-- `d'` is `d` after the records of some substitute trials made at now. -/
def DeviationTable.withTrials (now : Nat) (d d' : DeviationTable) : Prop :=
  ∃ ks : List DeviationKind, (∀ k ∈ ks, k.isTrial = true) ∧ d' = ks.foldl (fun x k => x.add now k) d

/-- A line without its active position, its wait, its exhausted flag and its trial mark: what a substitute trial and
an evaluation of the accumulators leave alone (R48, R142, R143). -/
def Line.stock (l : Line) : Line :=
  { l with position := 0, wait := { stored := 0, runStart := none }, exhausted := false, trialMark := false }

/-- A build whose lines are reduced to their stock. -/
def Build.stock (bd : Build) : Build := { bd with lines := bd.lines.map Line.stock }

/-- In both states every bay holds the same build, but for what a substitute trial or an evaluation of the
accumulators may change. -/
def State.sameStock (s t : State) : Prop := ∀ b, (t.bay b).map Build.stock = (s.bay b).map Build.stock

/-- R24 written out: the mode is SETTLING, ACTIVE or CLOSING; the line's needed units are above 0; and the bay, not HELD,
is GATHERING and the line ambient, or CHILLING and the line chilled. The line is chilled when its primary's record is
(R8); a primary that the table does not hold, which R2 rules out, is ambient (log 26). -/
def State.meetsR24 (s : State) (bd : Build) (l : Line) : Prop :=
  let chilled := ∃ r, s.items.find? (fun x => x.code == l.primary) = some r ∧ r.chilled = true
  (s.ctl.mode = .settling ∨ s.ctl.mode = .active ∨ s.ctl.mode = .closing)
    ∧ 0 < l.ordered - l.placed - l.pinned
    ∧ bd.held = false ∧ (bd.work = .gathering ∧ ¬ chilled ∨ bd.work = .chilling ∧ chilled)

/-- An evaluation of the accumulators of these bays finds the running condition of this line true, its accumulator not
running, its trial mark clear and its expiry, which the clock's largest value limits, already reached; so the line is
tried at once (R48, R50, R137, R138, R159). At the clock's largest value that is so of a wait below its limit too, one
that a Confirm Pick has set to 0 among them (log 31). -/
def State.triesAtOnce (s : State) (bs : List BayNo) (b : BayNo) (i : Nat) : Prop :=
  b ∈ bs ∧ ∃ bd l, s.bay b = some bd ∧ bd.lines[i]? = some l ∧ running s.ctl.mode s.items bd l = true
    ∧ l.wait.runStart = none ∧ l.trialMark = false
    ∧ min (s.clock + (s.loader.active.substituteWait * 10 - l.wait.stored)) 4294967295 ≤ s.clock

/-- A line before and after a trial made at now: switched, its wait at 0 and its trial mark clear; or not switched, its
exhausted flag and trial mark set and its wait kept (R142, R143). -/
def Line.triedTo (now : Nat) (l l' : Line) : Prop :=
  (l.position < l'.position ∧ l'.wait.value now = 0 ∧ l'.trialMark = false ∧ l'.exhausted = l.exhausted)
    ∨ (l'.position = l.position ∧ l'.wait.value now = l.wait.value now ∧ l'.trialMark = true ∧ l'.exhausted = true)

/-- A line of which no trial is made: its wait keeps its value, whether it starts, stops or goes on (R47, R48). -/
def Line.untriedTo (now : Nat) (l l' : Line) : Prop :=
  l'.position = l.position ∧ l'.wait.value now = l.wait.value now ∧ l'.trialMark = l.trialMark
    ∧ l'.exhausted = l.exhausted

/-- From `u` to `t` the lines that an evaluation of these bays tries at once are tried, and every other line keeps its
wait's value and its part in trials; which lines those are at the clock's largest value is the model's choice
(log 31). -/
def State.triesMade (u t : State) (bs : List BayNo) : Prop :=
  ∀ b i l l', (u.linesOf b)[i]? = some l → (t.linesOf b)[i]? = some l' →
    (u.triesAtOnce bs b i → l.triedTo u.clock l') ∧ (¬ u.triesAtOnce bs b i → l.untriedTo u.clock l')

/-- `s` with the running condition of every line of these bays evaluated at now: an accumulator whose condition holds
starts or runs on, another stops (R47, R48). -/
def State.evaluated (s : State) (bs : List BayNo) : State :=
  s.setBays (Vector.ofFn fun b : Fin 8 => (s.bay b).map fun bd =>
    if b ∈ bs then
      { bd with
        lines := bd.lines.map fun l =>
          { l with
            wait :=
              if running s.ctl.mode s.items bd l = true then
                { stored := l.wait.stored, runStart := some (l.wait.runStart.getD s.clock) }
              else { stored := l.wait.value s.clock, runStart := none } } }
    else bd)

/-- `t` is `s` after an evaluation of accumulators with the trials it starts at once, and change checks (R48, R91,
R138). -/
def State.reevaluatedTo (s t : State) : Prop :=
  s.sameStock t ∧ s.li.withMarker t.li ∧ s.dev.withTrials s.clock t.dev ∧ s.port.onlyRaises t.port [.deviation]
    ∧ s.changedOnly t [.bays, .li, .dev, .port, .draws]

/-- The accumulators of a bay's lines run exactly while the running condition holds (R48). -/
def State.waitsFollow (s : State) (b : BayNo) : Prop :=
  ∀ bd, s.bay b = some bd → ∀ l ∈ bd.lines, l.wait.runStart.isSome = running s.ctl.mode s.items bd l

/-! ## The bench port -/

/-- RESET is not low and the port is IDLE: the part takes the next transaction (R161, R174). -/
def State.listens (s : State) : Prop := s.resetLow = false ∧ s.port.state = .idle

/-- `s` after a request of `n` bytes behind its code is answered with a reply and nothing else is changed (R173). -/
def State.replied (s : State) (n : Nat) (r : Reply) : State :=
  s.setPort { s.port with state := .idle, reply := some r, ready := true, miso := 0x5A#8 :: List.replicate n 0#8 }

/-- The bytes after a request code carry this parameter block whole: its length, its bytes, and then whatever bytes
the bench computer sends beyond it, which are ignored (R173). -/
def carries (tx block : List Byte) : Prop :=
  block.length ≤ 250 ∧ ∃ beyond, tx = BitVec.ofNat 8 block.length :: (block ++ beyond)

/-- The port is IDLE with READY high and this reply unfetched, after a request of `n` bytes behind its code (R173). -/
def BenchPort.holds (p : BenchPort) (n : Nat) (r : Reply) : Prop :=
  p.state = .idle ∧ p.reply = some r ∧ p.ready = true ∧ p.miso = 0x5A#8 :: List.replicate n 0#8

/-- A reply of these bytes with status OK. -/
def okReply (output : List Byte) : Reply := { status := .ok, output := output }

/-- A reply with this status and no output (R176). -/
def bareReply (st : Status) : Reply := { status := st, output := [] }

/-- A request of R185: its code, the rule its parameter length obeys, whether it is taken in LOADING (R175, check 4),
and the command that its transaction makes. -/
structure RequestRow where
  code : Byte
  lengthOk : List Byte → Bool
  inLoading : Bool
  /-- Every reply of Load Items carries a taken count (R176). -/
  refusedOutput : List Byte
  command : List Byte → Instr

/-- The 24 requests of R185, in the order of its table; the straps a Restart samples and the level of LANE_FULL are
what stands at the pins. -/
def requestRows (straps : BitVec 5) (laneFull : Bool) : List RequestRow :=
  [ { code := 0x01, lengthOk := fun b => b.length == 0, inLoading := true, refusedOutput := [],
      command := .readIdentity },
    { code := 0x02, lengthOk := fun b => b.length == 0, inLoading := true, refusedOutput := [],
      command := .readStatus },
    { code := 0x03, lengthOk := fun b => b.length == 0, inLoading := false, refusedOutput := [],
      command := .readClock },
    { code := 0x04, lengthOk := fun b => b.length == 0, inLoading := false, refusedOutput := [],
      command := .readEvents },
    { code := 0x05, lengthOk := fun b => b.length == 2, inLoading := false, refusedOutput := [],
      command := .setEventEnables },
    { code := 0x10, lengthOk := fun b => decide (b ≠ []) && b.length == 1 + 7 * (b.headD 0).toNat, inLoading := false,
      refusedOutput := [0], command := .loadItems },
    { code := 0x11, lengthOk := fun b => b.length == 2, inLoading := false, refusedOutput := [],
      command := .removeItem },
    { code := 0x12, lengthOk := fun b => decide (13 ≤ b.length) && b.length == 13 + 10 * (b.getD 12 0).toNat,
      inLoading := false,
      refusedOutput := [], command := .openBuild },
    { code := 0x13, lengthOk := fun b => b.length == 1, inLoading := false, refusedOutput := [],
      command := .cancelBuild },
    { code := 0x14, lengthOk := fun b => b.length == 1, inLoading := false, refusedOutput := [],
      command := .sealBuild },
    { code := 0x15, lengthOk := fun b => b.length == 1, inLoading := false, refusedOutput := [],
      command := .holdBays },
    { code := 0x16, lengthOk := fun b => b.length == 1, inLoading := false, refusedOutput := [],
      command := .releaseBays },
    { code := 0x17, lengthOk := fun b => b.length == 1, inLoading := false, refusedOutput := [],
      command := .readBay },
    { code := 0x20, lengthOk := fun b => decide (b ≠ []) && b.length == 1 + (b.headD 0).toNat, inLoading := false,
      refusedOutput := [], command := .confirmPick },
    { code := 0x21, lengthOk := fun b => b.length == 0, inLoading := false, refusedOutput := [],
      command := .returnTote },
    { code := 0x22, lengthOk := fun b => b.length == 0, inLoading := false, refusedOutput := [],
      command := .readLane laneFull },
    { code := 0x30, lengthOk := fun b => b.length == 2, inLoading := false, refusedOutput := [],
      command := .readDeviations },
    { code := 0x31, lengthOk := fun b => b.length == 0, inLoading := false, refusedOutput := [],
      command := .clearDeviations },
    { code := 0x40, lengthOk := fun b => b.length == 1, inLoading := false, refusedOutput := [],
      command := .setMode },
    { code := 0x41, lengthOk := fun b => b.length == 1, inLoading := false, refusedOutput := [],
      command := .readPeers },
    { code := 0x42, lengthOk := fun b => b.length == 0, inLoading := false, refusedOutput := [],
      command := .readLineCounters },
    { code := 0x43, lengthOk := fun b => b.length == 0, inLoading := false, refusedOutput := [],
      command := .readSettings },
    { code := 0x44, lengthOk := fun b => b.length == 12, inLoading := false, refusedOutput := [],
      command := .writeSettings },
    { code := 0x45, lengthOk := fun b => b.length == 0, inLoading := false, refusedOutput := [],
      command := .restart straps } ]

/-- The first of checks 2 to 4 of R175 that fails on a request's bytes, or none. -/
def RequestRow.refusal (r : RequestRow) (mode : Mode) (tx : List Byte) : Option Status :=
  match tx with
  | [] => some .badRequest
  | len :: rest =>
    if 250 < len.toNat ∨ rest.length < len.toNat then some .badRequest
    else if r.lengthOk (rest.take len.toNat) = false then some .badRequest
    else if mode = .loading ∧ r.inLoading = false then some .busy
    else none

/-! ## Items -/

/-- The first check of R3 that a record fails against a table, or none; whether an item is in use does not change
while Load Items runs. -/
def State.itemRefusal (s : State) (items : List ItemRecord) (r : RawItem) : Option Status :=
  if r.code = 0 ∨ r.weight = 0 ∨ 9999 < r.weight ∨ 1 < r.chill.toNat then some .badArg
  else if (items.any fun x => x.code == r.code) = true then if s.itemInUse r.code = true then some .inUse else none
  else if 256 ≤ items.length then some .tableFull
  else none

/-- The item table after a record is taken (R3). -/
def tableWith (items : List ItemRecord) (r : RawItem) : List ItemRecord :=
  if (items.any fun x => x.code == r.code) = true then
    items.map fun x =>
      if x.code == r.code then
        { code := r.code, value := r.value, weight := r.weight, chilled := decide (r.chill = 1) }
      else x
  else items ++ [{ code := r.code, value := r.value, weight := r.weight, chilled := decide (r.chill = 1) }]

/-! ## Picks and departures -/

/-- The sum of the second figures of some allocations that name this line. -/
def countOn (b : BayNo) (i : Nat) (xs : List (Allocation × Nat)) : Nat :=
  ((xs.filter fun x => x.1.bay == b && x.1.line == i).map (·.2)).sum

/-- Units granted to this line by some allocations. -/
def grantedOn (b : BayNo) (i : Nat) (as : List Allocation) : Nat :=
  ((as.filter fun a => a.bay == b && a.line == i).map (·.granted)).sum

/-- A line after units of its active item are placed on it and granted units are unpinned; where any unit was taken its
wait is set to 0 and its trial mark cleared (R10, R49, R137). -/
def Line.picked (items : List ItemRecord) (now taken granted : Nat) (l : Line) : Line :=
  { l with
    placed := l.placed + taken
    placedValue := l.placedValue + taken * unitValue items l.activeItem
    placedWeight := l.placedWeight + taken * unitWeight items l.activeItem
    pinned := l.pinned - granted
    wait := if taken = 0 then l.wait else { stored := 0, runStart := l.wait.runStart.map fun _ => now }
    trialMark := decide (taken = 0) && l.trialMark }

/-- The build of a bay after a placement (R10, R27, R28, R30); `touched` where an allocation names one of its
lines. -/
def State.pickedBuild (s : State) (xs : List (Allocation × Nat)) (b : BayNo) (bd : Build) : Build :=
  let lines := bd.lines.zipIdx.map fun li =>
    li.1.picked s.items s.clock (countOn b li.2 xs) (grantedOn b li.2 (xs.map (·.1)))
  let touched := xs.any fun x => x.1.bay == b
  let opens := bd.chillExpiry.isNone && (bd.lines.zipIdx.any fun li =>
    li.1.chilled s.items && decide (0 < countOn b li.2 xs))
  let ambientDone := lines.all fun l => l.chilled s.items || l.complete
  let allDone := lines.all Line.complete
  { bd with
    lines := lines
    chillExpiry := if opens = true then some (min (s.clock + s.loader.active.chillWindow * 10) 4294967295)
      else bd.chillExpiry
    work :=
      if touched = false then bd.work
      else
        match bd.work with
        | .gathering => if ambientDone = false then .gathering else if allDone = true then .ready else .chilling
        | .chilling => if allDone = true then .ready else .chilling
        | .ready => .ready }

/-- The build of a bay after granted units are unpinned from its lines (R9). -/
def Build.unpinned (as : List Allocation) (b : BayNo) (bd : Build) : Build :=
  { bd with lines := bd.lines.zipIdx.map fun li => { li.1 with pinned := li.1.pinned - grantedOn b li.2 as } }

/-- The build of a bay after granted units are pinned to its lines (R9). -/
def Build.pinnedWith (as : List Allocation) (b : BayNo) (bd : Build) : Build :=
  { bd with lines := bd.lines.zipIdx.map fun li => { li.1 with pinned := li.1.pinned + grantedOn b li.2 as } }

/-- The station mode after a departure that leaves this lane queue (R124, R167). -/
def State.modeAfter (s : State) (queue : List LaneEntry) : Mode :=
  if s.ctl.mode = .closing ∧ (∀ b, s.bay b = none) ∧ queue = [] then .quiet else s.ctl.mode

/-- `v` after the CLOSING check (R167): QUIET, with its change check and MODE_CHANGED, where every bay is EMPTY and the
lane queue is empty. -/
def State.closingChecked (v : State) : State :=
  if v.ctl.mode = .closing ∧ (∀ b, v.bay b = none) ∧ v.lane.queue = [] then
    ((v.setCtl { v.ctl with mode := .quiet }).changeCheck).setFlag .modeChanged
  else v

/-- The bays that some allocations name. -/
def namedBays (as : List Allocation) : List BayNo := allBays.filter fun b => as.any fun a => a.bay == b

/-- The lane queue without the entry of a tote (R124). -/
def State.laneWithout (s : State) (tote : ToteId) : List LaneEntry := s.lane.queue.eraseP fun e => e.tote == tote

/-! ## Heard demand -/

/-- The entries of a DEMAND that are taken (R82, step 2): none with units 0 or item 0x0000, and of those that name one
bay and line only the first. -/
def entriesTaken : List DemandEntry → List DemandEntry
  | [] => []
  | e :: es =>
    if e.units = 0 ∨ e.item = 0 then entriesTaken es
    else e :: (entriesTaken es).filter fun x => x.bay != e.bay || x.line != e.line

/-! ## Received cells -/

/-- The command brings activity of LRXD that makes a frame (R68): a frame that fails a check, or a notice. -/
def bringsFrame (c : Instr) : Prop :=
  (∃ levels, c = .badFrame levels)
    ∨ (∃ sender sequence capacity bays revision, c = .joinNotice sender sequence capacity bays revision)
    ∨ (∃ sender sequence entries, c = .demandNotice sender sequence entries)
    ∨ (∃ sender sequence tote serial item units remaining,
      c = .drawNotice sender sequence tote serial item units remaining)
    ∨ ∃ sender sequence tote serial item remaining, c = .tallyNotice sender sequence tote serial item remaining

/-- These levels end a received frame's decoded bits: less than a cell, or a cell without a change at its middle
(R68). -/
def endsCells (rest : List Bool) : Prop := rest.length < 2 ∨ ∃ x more, rest = x :: x :: more

/-! ## Invariants -/

/-- ATTN is high while at least one flag is set whose enable is set, and low otherwise; RESET held low drives it low
(R161, R181). -/
def State.attnFollows (s : State) : Prop :=
  s.port.attn = (!s.resetLow && decide (∃ k : Fin 13, s.port.flags[k] = true ∧ s.port.enables[k] = true))

/-- READY is high while the reply buffer holds an unfetched reply; RESET held low drives it low (R161, R173). -/
def State.readyFollows (s : State) : Prop := s.port.ready = (!s.resetLow && s.port.reply.isSome)

/-- The outgoing queue holds up to 12 notices, at most one of them a DEMAND marker, and the head alone is ever in
flight; a notice carries its sequence number exactly while it is in flight, and a marker never is (R60). -/
def LineInterface.queueSound (l : LineInterface) : Prop :=
  l.queue.length ≤ 12 ∧ (l.queue.filter fun n => n.payload.isNone).length ≤ 1
    ∧ (∀ n ∈ l.queue.drop 1, n.attempts = 0)
    ∧ ∀ n ∈ l.queue, n.attempts ≤ 8 ∧ (n.attempts = 0 ↔ n.sequence = none) ∧ (n.payload = none → n.attempts = 0)

/-- There is a head notice, with an attempt count in this range (R60). -/
def LineInterface.headAttempts (l : LineInterface) (lo hi : Nat) : Prop :=
  ∃ n rest, l.queue = n :: rest ∧ lo ≤ n.attempts ∧ n.attempts ≤ hi

/-- LDE is high, and LTXD carries cells, exactly while the frame or the jam is sent; while one of them or a backoff
goes on there is a head notice, in flight (R55, R60, R66). -/
def LineInterface.transmitterSound (l : LineInterface) : Prop :=
  match l.phase with
  | .waiting => l.lde = false ∧ l.ltxd = .standingHigh
  | .backoff _ => l.lde = false ∧ l.ltxd = .standingHigh ∧ l.headAttempts 1 7
  | .sending _ => l.lde = true ∧ l.ltxd = .cells ∧ l.headAttempts 1 8
  | .jamming => l.lde = true ∧ l.ltxd = .cells ∧ l.headAttempts 1 8

/-- The Line Interface is sound; in LOADING its queue and the lane are empty, no refresh expiry is pending and no idle
line has been seen (R60, R74, R89, R118); until one is, no notice has made an attempt (R74); and a notice that waits for
another attempt has made fewer than eight (R66). RESET_LOW may cut off an eighth attempt. -/
def State.lineSound (s : State) : Prop :=
  s.li.queueSound ∧ s.li.transmitterSound
    ∧ (s.ctl.mode = .loading →
      s.li.queue = [] ∧ s.lane.queue = [] ∧ s.peers.refreshExpiry = none ∧ s.li.idleSeen = false)
    ∧ (s.li.idleSeen = false → s.li.phase = .waiting ∧ ∀ n ∈ s.li.queue, n.attempts = 0)
    ∧ (s.resetLow = false → s.li.phase = .waiting → ∀ n ∈ s.li.queue, n.attempts ≤ 7)

/-- The deviation table holds at most 64 records, and never more than records-since-clear (R153). -/
def State.deviationsBounded (s : State) : Prop :=
  s.dev.records.length ≤ 64 ∧ s.dev.records.length ≤ s.dev.sinceClear ∧ s.dev.sinceClear ≤ 65535

/-- While records-since-clear is below 65535 the list is a run of consecutive record numbers that ends with it
(R154). -/
def State.deviationsNumbered (s : State) : Prop :=
  s.dev.sinceClear < 65535 →
    ∀ k d, s.dev.records[k]? = some d → d.number + s.dev.records.length = s.dev.sinceClear + 1 + k

/-- The heard-demand table holds no entry from a peer that is not PRESENT, at most 16 from any one peer, and at most
256 in all; no two entries have the same peer, bay and line, and none is the station's own (R81). -/
def State.heardSound (s : State) : Prop :=
  s.peers.heard.length ≤ 256
    ∧ (∀ h ∈ s.peers.heard, 1 ≤ h.peer ∧ h.peer ≤ 32 ∧ h.peer ≠ s.ctl.station ∧ (s.peer h.peer).state = .present)
    ∧ (∀ p, (s.heardOf p).length ≤ 16)
    ∧ (s.peers.heard.map fun h => (h.peer, h.entry.bay, h.entry.line)).Nodup

/-- The reader port decoder is stopped exactly in LOADING, and a frame in assembly has fewer than eight characters
(R95). -/
def State.readerSound (s : State) : Prop :=
  (s.totes.decoder = .stopped ↔ s.ctl.mode = .loading)
    ∧ ∀ frame, s.totes.decoder = .assembling frame → frame.length < 8

/-- The item table holds at most 256 records, no two with the same item code, each within the ranges of R1. -/
def State.itemsSound (s : State) : Prop :=
  s.items.length ≤ 256 ∧ (s.items.map (·.code)).Nodup
    ∧ ∀ r ∈ s.items, r.code ≠ 0 ∧ r.value ≤ 65535 ∧ 1 ≤ r.weight ∧ r.weight ≤ 9999

/-- The tote table holds at most 128 entries, no two with the same tote ID, each with a tote ID and an item code and a
count of 0..255 (R98). -/
def State.totesSound (s : State) : Prop :=
  s.totes.table.length ≤ 128 ∧ (s.totes.table.map (·.tote)).Nodup
    ∧ ∀ e ∈ s.totes.table, e.tote ≠ 0 ∧ e.item ≠ 0 ∧ e.remaining ≤ 255

/-- The lane queue never holds more entries than the lane capacity, and never two with the same tote ID; it is a run
of AT_BENCH entries followed by a run of INBOUND entries; it is empty in LOADING (R118). -/
def State.laneSound (s : State) : Prop :=
  s.lane.queue.length ≤ s.loader.active.laneCapacity ∧ (s.lane.queue.map (·.tote)).Nodup
    ∧ (∃ k, (∀ e ∈ s.lane.queue.take k, e.isAtBench = true) ∧ ∀ e ∈ s.lane.queue.drop k, e.isAtBench = false)
    ∧ (s.ctl.mode = .loading → s.lane.queue = [])

/-- The active settings lie in their ranges (R162, R163). -/
def State.settingsInRange (s : State) : Prop :=
  1 ≤ s.loader.active.laneCapacity ∧ s.loader.active.laneCapacity ≤ 4
    ∧ 1 ≤ s.loader.active.drawLimit ∧ s.loader.active.drawLimit ≤ 24
    ∧ 1 ≤ s.loader.active.refresh ∧ s.loader.active.refresh ≤ 10
    ∧ 3 ≤ s.loader.active.silenceMultiplier ∧ s.loader.active.silenceMultiplier ≤ 10
    ∧ 30 ≤ s.loader.active.substituteWait ∧ s.loader.active.substituteWait ≤ 1800
    ∧ 60 ≤ s.loader.active.chillWindow ∧ s.loader.active.chillWindow ≤ 1800
    ∧ 1 ≤ s.loader.active.confirmLimit ∧ s.loader.active.confirmLimit ≤ 20
    ∧ 30 ≤ s.loader.active.dwellLimit ∧ s.loader.active.dwellLimit ≤ 600
    ∧ 1 ≤ s.loader.active.errorThreshold ∧ s.loader.active.errorThreshold ≤ 255

/-- For every line record in use, units placed + units pinned ≤ units ordered (R8). -/
def State.linesSound (s : State) : Prop :=
  ∀ b, ∀ l ∈ s.linesOf b, l.placed + l.pinned ≤ l.ordered

/-- Units of a line granted by the allocations of the lane queue (R9). -/
def State.grantedTo (s : State) (b : BayNo) (i : Nat) : Nat :=
  (s.lane.queue.map fun e =>
    ((e.allocations.filter fun a => a.bay == b && a.line == i).map (·.granted)).sum).sum

/-- Units pinned on a line, 0 where no such line is in use. -/
def State.pinnedOn (s : State) (b : BayNo) (i : Nat) : Nat := (((s.linesOf b)[i]?).map (·.pinned)).getD 0

/-- For every line, units pinned equals the sum of the granted units of the allocations in the lane queue that name
that line; so an allocation names a line in use (R9). -/
def State.pinsMatchLane (s : State) : Prop := ∀ b i, s.pinnedOn b i = s.grantedTo b i

/-- Every line record names items the table holds, and its active position is in its substitute list (R2, R7). -/
def State.linesNamed (s : State) : Prop :=
  ∀ b, ∀ l ∈ s.linesOf b, l.position ≤ l.substitutes.length
    ∧ ∀ c ∈ l.primary :: l.substitutes, (findItem s.items c).isSome = true

/-- For every bay not in EMPTY, the projected value is at least its value floor and the projected weight at most its
weight ceiling (R18). -/
def State.promisesKept (s : State) : Prop :=
  ∀ b bd, s.bay b = some bd →
    bd.floor ≤ projectedValue s.items bd.lines ∧ projectedWeight s.items bd.lines ≤ bd.ceiling

/-- The line records in use never number more than 64, and every build has 1 to 12 of them (R6, R11). -/
def State.poolSound (s : State) : Prop :=
  s.linesInUse ≤ 64 ∧ ∀ b bd, s.bay b = some bd → 1 ≤ bd.lines.length ∧ bd.lines.length ≤ 12

/-- In READY, and in HELD with resume state READY, every line is complete (R12, R26). -/
def State.readyComplete (s : State) : Prop :=
  ∀ b bd, s.bay b = some bd → bd.work = .ready → ∀ l ∈ bd.lines, l.complete = true

/-- No bay holds a build in LOADING (R22), and everywhere the accumulators run exactly while the running condition
holds (R48); the item records that decide which lines are chilled cannot change (R2). -/
def State.accumulatorsSound (s : State) : Prop :=
  s.linesNamed ∧ (s.ctl.mode = .loading → ∀ b, s.bay b = none) ∧ ∀ b, s.waitsFollow b

/-- The Build Store and the lane agree with each other and with the item table: the invariant from which R18
follows. -/
def State.storeSound (s : State) : Prop :=
  s.laneSound ∧ s.linesSound ∧ s.pinsMatchLane ∧ s.linesNamed ∧ s.readyComplete ∧ s.promisesKept

/-- An Open Build with these parameters passes every check of R14 after the second. -/
def State.acceptsBuild (s : State) (p : BuildParams) : Prop :=
  s.ctl.mode ≠ .closing
    ∧ 1 ≤ p.lines.length ∧ p.lines.length ≤ 12 ∧ 1 ≤ p.ceiling
    ∧ (∀ e ∈ p.lines, 1 ≤ e.ordered ∧ e.ordered ≤ 24 ∧ e.substituteCount ≤ 3 ∧ e.primary ≠ 0 ∧ (∀ c ∈ e.substitutes, c ≠ 0)
        ∧ e.primary ∉ e.substitutes ∧ e.substitutes.Nodup)
    ∧ (∀ e ∈ p.lines, ∀ c ∈ e.primary :: e.substitutes, (findItem s.items c).isSome = true)
    ∧ (∀ e ∈ p.lines, ∀ c ∈ e.substitutes, isChilled s.items c = isChilled s.items e.primary)
    ∧ p.lines.length ≤ s.poolFree
    ∧ p.floor ≤ (p.lines.map fun e => e.ordered * unitValue s.items e.primary).sum
    ∧ (p.lines.map fun e => e.ordered * unitWeight s.items e.primary).sum ≤ p.ceiling

/-- The fields of Open Build's parameters fit their places in the block (R185). -/
def BuildParams.fits (p : BuildParams) : Prop :=
  p.bay < 256 ∧ p.deadlineSeconds < 65536 ∧ p.floor < 16777216 ∧ p.ceiling < 65536 ∧ p.lines.length ≤ 23
    ∧ ∀ e ∈ p.lines, e.ordered < 256 ∧ e.substituteCount < 256

/-- The fields of an item record fit their places in the block (R185). -/
def RawItem.fits (r : RawItem) : Prop := r.value < 65536 ∧ r.weight < 65536

end Sys2Proof.Machine
end

