-- ==== Sys2Proof/WellFormed.lean ====
section
/-! DEFINITION. Well-formed commands: operands that the command's row admits. Every other operand value is admitted by
its type. A command that is not well-formed still has a meaning (logs 14 and 15). -/

namespace Sys2Proof

/-- A station number of the station line (00_scope.md, Station, bay and line numbering). -/
def goodStation (p : Nat) : Bool := 1 ≤ p && p ≤ 32

/-- The frame fails a check of R68. -/
def Machine.FrameClass.isBad : Machine.FrameClass → Bool
  | .fragment => true
  | .crcBad => true
  | .malformed => true
  | .good _ _ _ => false

/-- The operands are such as the command's row admits: a peer is a station number, a good notice comes from a sender
1..32 and a DEMAND holds at most 16 entries (R59, R68), a bad frame begins with a change from the idle line's high level
and fails a check (R55, R68), and an unknown request code is neither the fetch code nor one of the 24 (R173, R175). -/
def Instr.wellFormed : Instr → Bool
  | .hardReset _ => true
  | .settingsLoad _ => true
  | .settingsLoadTimeout => true
  | .settleExpiry => true
  | .readIdentity _ => true
  | .readStatus _ => true
  | .readClock _ => true
  | .readEvents _ => true
  | .setEventEnables _ => true
  | .loadItems _ => true
  | .removeItem _ => true
  | .openBuild _ => true
  | .cancelBuild _ => true
  | .sealBuild _ => true
  | .holdBays _ => true
  | .releaseBays _ => true
  | .readBay _ => true
  | .confirmPick _ => true
  | .returnTote _ => true
  | .readLane _ _ => true
  | .readDeviations _ => true
  | .clearDeviations _ => true
  | .setMode _ => true
  | .readPeers _ => true
  | .readLineCounters _ => true
  | .readSettings _ => true
  | .writeSettings _ => true
  | .writeAccessEnd => true
  | .writeAccessTimeout => true
  | .restart _ _ => true
  | .fetchTransaction _ => true
  | .tagRead _ _ _ => true
  | .shortReaderFrame => true
  | .arrival _ => true
  | .divertPulseEnd => true
  | .mergePulseEnd => true
  | .divertConfirmExpiry _ => true
  | .dwellExpiry _ => true
  | .chillWindowExpiry _ => true
  | .deadlineExpiry _ => true
  | .substituteWaitExpiry _ _ => true
  | .silenceExpiry peer => goodStation peer
  | .refreshExpiry => true
  | .attempt _ => true
  | .noticeComplete => true
  | .collision => true
  | .jamEnd => true
  | .backoffEnd => true
  | .badFrame levels => levels.head? == some false && (Machine.classify (Machine.decodeCells levels)).isBad
  | .joinNotice sender _ _ _ _ => Machine.goodSender sender
  | .demandNotice sender _ entries => Machine.goodSender sender && decide (entries.length ≤ Machine.demandPlaces)
  | .drawNotice sender _ _ _ _ _ _ => Machine.goodSender sender
  | .tallyNotice sender _ _ _ _ _ => Machine.goodSender sender
  | .clockTick => true
  | .resetLow => true
  | .unknownRequestCode code _ => code != 0 && !Machine.isRequestCode code

end Sys2Proof
end

