-- ==== Sys2Proof/Certificates/Slice0/Obligations.lean ====
section
/-! DEFINITION. The statements for the provers: what the numbered rules of the spec say the block does, command by
command, then the rules that hold over all commands. A clause that rests on a choice of the model names its log entry
(notes/assumptions). -/

open Sys2Proof Sys2Proof.Machine

/-! ## The block as a whole -/

/-- One step takes the command at the front of the queue; with none waiting the block idles (the model's choice,
log 1). -/
def Obligations.StepRunsTheFrontCommand : Prop :=
  (∀ (c : Instr) (s : State), step (s.setPending (c :: s.pending)) = exec c s)
    ∧ ∀ s : State, s.pending = [] → step s = .next s

/-- No command stops the block, and none but the step itself touches the queue; that a HARD_RESET leaves it too is the
model's choice (log 21). -/
def Obligations.EveryCommandAnswersAndKeepsTheQueue : Prop :=
  ∀ (c : Instr) (s : State), ∃ t, exec c s = .next t ∧ t.pending = s.pending

/-! ## Reset, start-up and the clock -/

/-- RESET_LOW (R161): the pins the rule names, every register no pin shows kept (the model's choice, log 22), and no
event taken until the release. -/
def Obligations.ResetHeldLowDrivesThePinsAndTakesNoEvent : Prop :=
  (∀ s : State, exec .resetLow s = .next
    { s with
      resetLow := true
      loader := { s.loader with bus := .released }
      li := { s.li with phase := .waiting, lde := false, ltxd := .standingHigh }
      lane := { s.lane with divert := false, merge := false }
      port := { s.port with state := .idle, ready := false, attn := false } })
    ∧ ∀ (c : Instr) (s : State), s.resetLow = true → (∀ straps, c ≠ .hardReset straps) → c ≠ .resetLow →
        exec c s = .next s

/-- HARD_RESET (R160, R161): every block at its hard-reset values, written out. The load outcome DEFAULTED (log 6), the
random source's figures (log 9) and the empty MISO record (log 19) are the model's; the queue and the free-value
counter are not the part's and stay (log 21). -/
def Obligations.HardResetSetsEveryBlock : Prop :=
  ∀ (straps : BitVec 5) (s : State), exec (.hardReset straps) s = .next
    { pending := s.pending
      resetLow := false
      clock := 0
      ctl := { mode := .loading, station := straps.toNat + 1, settleExpiry := none }
      loader :=
        { active :=
            { laneCapacity := 3, drawLimit := 12, refresh := 2, silenceMultiplier := 4, substituteWait := 300,
              chillWindow := 600, confirmLimit := 4, dwellLimit := 180, errorThreshold := 16 }
          outcome := .defaulted, state := .loading, bus := .reading 0x50 0x00 16 }
      items := []
      bays := Vector.replicate 8 none
      li :=
        { queue := [], seq := 0, phase := .waiting, lde := false, ltxd := .standingHigh, idleSeen := false
          counters := { sent := 0, good := 0, fragments := 0, crcBad := 0, malformed := 0, collisions := 0,
                        dropped := 0, gaps := 0 }
          degraded := false, rng := { station := 0, clock := 0, draws := 0 } }
      peers :=
        { roster := Vector.replicate 32
            { state := .absent, lastSequence := none, lastHeard := none, heard := 0, gaps := 0 }
          heard := [], lastSent := [], overflow := 0, refreshExpiry := none }
      totes := { decoder := .stopped, good := 0, malformed := 0, duplicate := 0, table := [] }
      lane := { queue := [], unexpected := 0, divert := false, merge := false }
      dev := { records := [], sinceClear := 0, lastClear := 0 }
      port :=
        { state := .idle, reply := none, ready := false, flags := 0, cause := .none, enables := 0, attn := false
          miso := [] }
      draws := s.draws }

/-- RESTART (R169): what is kept and what is cleared, written out, with the reply OK in the buffer; the straps are
sampled afresh (R160), and a reader frame in assembly is abandoned uncounted (R95). The random source's figures are the
model's choice (log 9). -/
def Obligations.RestartKeepsAndClears : Prop :=
  ∀ (straps : BitVec 5) (tx : List Byte) (s : State), s.listens → s.ctl.mode ≠ .loading → carries tx [] →
    exec (.restart straps tx) s = .next
      { s with
        ctl := { mode := .loading, station := straps.toNat + 1, settleExpiry := none }
        loader :=
          { active :=
              { laneCapacity := 3, drawLimit := 12, refresh := 2, silenceMultiplier := 4, substituteWait := 300,
                chillWindow := 600, confirmLimit := 4, dwellLimit := 180, errorThreshold := 16 }
            outcome := s.loader.outcome, state := .loading, bus := .reading 0x50 0x00 16 }
        bays := Vector.replicate 8 none
        li :=
          { queue := [], seq := 0, phase := .waiting, lde := false, ltxd := .standingHigh, idleSeen := false
            counters := { sent := 0, good := 0, fragments := 0, crcBad := 0, malformed := 0, collisions := 0,
                          dropped := 0, gaps := 0 }
            degraded := false, rng := { station := 0, clock := 0, draws := 0 } }
        peers :=
          { roster := Vector.replicate 32
              { state := .absent, lastSequence := none, lastHeard := none, heard := 0, gaps := 0 }
            heard := [], lastSent := [], overflow := 0, refreshExpiry := none }
        totes := { decoder := .stopped, good := 0, malformed := 0, duplicate := 0, table := [] }
        lane := { queue := [], unexpected := 0, divert := false, merge := false }
        port :=
          { s.port with
            state := .idle, reply := some (okReply []), ready := true
            miso := 0x5A#8 :: List.replicate tx.length 0#8
            flags := 0, cause := .none, attn := false } }

/-- CLOCK_TICK raises the clock by one up to its largest value, where it holds, and no other command but a hard reset
moves it; so it never decreases (R159). -/
def Obligations.ClockRisesByTicksAndNeverFalls : Prop :=
  (∀ s : State, s.resetLow = false → exec .clockTick s = .next { s with clock := min (s.clock + 1) 4294967295 })
    ∧ (∀ (c : Instr) (s t : State), (∀ straps, c ≠ .hardReset straps) → c ≠ .clockTick → exec c s = .next t →
        t.clock = s.clock)
    ∧ ∀ (c : Instr) (s t : State), (∀ straps, c ≠ .hardReset straps) → s.clock ≤ 4294967295 → exec c s = .next t →
        s.clock ≤ t.clock ∧ t.clock ≤ 4294967295

/-- SETTINGS_LOAD and SETTINGS_LOAD_TIMEOUT (R163, R164): the active settings as read, clamped or defaulted, the
SETTINGS_NOTE they set, and the entry to SETTLING with its JOIN, its two expiries, the Line Interface started with no
idle line seen yet (R74) and the reader port decoder started (R95). -/
def Obligations.SettingsLoadFormsTheSettingsAndSettles : Prop :=
  ∀ s : State, s.resetLow = false → s.ctl.mode = .loading → s.loader.state = .loading →
    let settled (g : Settings) (o : LoadOutcome) (port : BenchPort) : State :=
      { s with
        ctl := { s.ctl with mode := .settling, settleExpiry := some (min (s.clock + 2 * g.refresh * 10) 4294967295) }
        loader := { active := g, outcome := o, state := .idle, bus := .released }
        li :=
          { s.li with
            queue := s.li.queue
              ++ [{ payload := some (.join (BitVec.ofNat 8 g.laneCapacity) 8 1), sequence := none, attempts := 0 }]
            idleSeen := false
            rng := { station := s.ctl.station, clock := s.clock, draws := 0 } }
        peers := { s.peers with refreshExpiry := some (min (s.clock + g.refresh * 10) 4294967295) }
        totes := { s.totes with decoder := .waiting }
        port := port }
    let noted (c : NoteCause) : BenchPort :=
      { s.port with
        cause := c, flags := s.port.flags ||| 0x200#13
        attn := decide ((s.port.flags ||| 0x200#13) &&& s.port.enables ≠ 0#13) }
    let defaults : Settings :=
      { laneCapacity := 3, drawLimit := 12, refresh := 2, silenceMultiplier := 4, substituteWait := 300,
        chillWindow := 600, confirmLimit := 4, dwellLimit := 180, errorThreshold := 16 }
    exec .settingsLoadTimeout s = .next (settled defaults .defaulted (noted .defaulted))
      ∧ ∀ record : Vector Byte 16,
        let r := record.toList
        let nearest (lo hi offset n : Nat) : Nat := max lo (min hi (fieldAt r offset n))
        let read : Settings :=
          { laneCapacity := fieldAt r 3 1, drawLimit := fieldAt r 4 1, refresh := fieldAt r 5 1
            silenceMultiplier := fieldAt r 6 1, substituteWait := fieldAt r 7 2, chillWindow := fieldAt r 9 2
            confirmLimit := fieldAt r 11 1, dwellLimit := fieldAt r 12 2, errorThreshold := fieldAt r 14 1 }
        let clamped : Settings :=
          { laneCapacity := nearest 1 4 3 1, drawLimit := nearest 1 24 4 1, refresh := nearest 1 10 5 1
            silenceMultiplier := nearest 3 10 6 1, substituteWait := nearest 30 1800 7 2
            chillWindow := nearest 60 1800 9 2, confirmLimit := nearest 1 20 11 1
            dwellLimit := nearest 30 600 12 2, errorThreshold := nearest 1 255 14 1 }
        exec (.settingsLoad record) s = .next
          (if fieldAt r 0 2 = 0x4842 ∧ fieldAt r 2 1 = 1
              ∧ ((r.take 15).map (·.toNat)).sum % 256 = fieldAt r 15 1 then
            if read = clamped then settled read .loaded s.port else settled clamped .clamped (noted .clamped)
          else settled defaults .defaulted (noted .defaulted))

/-- SETTLE_EXPIRY at or after its clock value (R164, R165): ACTIVE, every accumulator evaluated and running exactly as
its condition says with its value kept but for the lines tried at once (R48, R138; at the clock's largest value a line
whose wait is below its limit too, the model's choice, log 31), one change check, and MODE_CHANGED; before its clock
value, nothing (log 2), and taken late its now is the clock (log 3). -/
def Obligations.SettleExpiryMakesTheStationActive : Prop :=
  ∀ s : State, s.resetLow = false → s.ctl.mode = .settling →
    ∀ e, s.ctl.settleExpiry = some e →
      (s.clock < e → exec .settleExpiry s = .next s)
        ∧ (e ≤ s.clock →
          let u := s.setCtl { s.ctl with mode := .active, settleExpiry := none }
          ∃ t, exec .settleExpiry s = .next t
            ∧ t = ((u.reevaluate allBays).changeCheck).setFlag .modeChanged
            ∧ t.ctl = { s.ctl with mode := .active, settleExpiry := none }
            ∧ u.triesMade t allBays ∧ s.port.keepsReply t.port
            ∧ EventFlag.modeChanged.isSet t.port = true ∧ (∀ b, t.waitsFollow b)
            ∧ s.sameStock t ∧ s.li.withMarker t.li ∧ s.dev.withTrials s.clock t.dev
            ∧ s.port.onlyRaises t.port [.deviation, .modeChanged]
            ∧ s.changedOnly t [.ctl, .bays, .li, .dev, .port, .draws])

/-! ## The bench port -/

/-- The first check of R175 that fails answers a request, the request has no other effect, and every refused Load Items
carries a taken count of 0 (R176); an unknown code fails check 1. The first byte of a transaction names its request by
the codes of R185; 0x00 fetches, and any other is unknown. -/
def Obligations.RequestChecksRefuseWithoutEffect : Prop :=
  (∀ (straps : BitVec 5) (laneFull : Bool), ∀ row ∈ requestRows straps laneFull, ∀ (tx : List Byte) (s : State)
      (st : Status), s.listens → row.refusal s.ctl.mode tx = some st →
      exec (row.command tx) s = .next (s.replied tx.length { status := st, output := row.refusedOutput }))
    ∧ (∀ (code : Byte) (tx : List Byte) (s : State), s.listens → (Instr.unknownRequestCode code tx).wellFormed = true →
      exec (.unknownRequestCode code tx) s = .next (s.replied tx.length (bareReply .badRequest)))
    ∧ ∀ (straps : BitVec 5) (laneFull : Bool) (tx : List Byte),
      (∀ row ∈ requestRows straps laneFull, transactionCommand straps laneFull row.code tx = row.command tx)
        ∧ transactionCommand straps laneFull 0x00 tx = .fetchTransaction tx.length
        ∧ ∀ code : Byte, code ≠ 0x00 → (∀ row ∈ requestRows straps laneFull, row.code ≠ code) →
          (Instr.unknownRequestCode code tx).wellFormed = true
            ∧ transactionCommand straps laneFull code tx = .unknownRequestCode code tx

/-- FETCH_TRANSACTION sends the reply header and output on MISO, zeros after them, empties the buffer and lowers
READY; with no reply held it sends status byte 0x00 and output length 0 (R173), and the status codes are those of
R176. While the port is HANDLING a transaction of either kind is ignored whole, under link byte 0x3C and zeros (R174).
-/
def Obligations.FetchSendsTheReplyOnceAndHandlingIgnores : Prop :=
  (∀ (clocked : Nat) (s : State), s.listens →
    let sent : List Byte :=
      match s.port.reply with
      | none => [0, 0, 0]
      | some r => r.status.code :: be 2 r.output.length ++ r.output
    exec (.fetchTransaction clocked) s = .next
      (s.setPort
        { s.port with
          reply := none, ready := false
          miso := 0x5A#8 :: (sent ++ List.replicate clocked 0#8).take clocked }))
    ∧ (∀ s : State, s.resetLow = false → s.port.state = .handling →
      let ignored (n : Nat) : State := s.setPort { s.port with miso := 0x3C#8 :: List.replicate n 0#8 }
      (∀ (straps : BitVec 5) (laneFull : Bool), ∀ row ∈ requestRows straps laneFull, ∀ tx : List Byte,
          exec (row.command tx) s = .next (ignored tx.length))
        ∧ (∀ (code : Byte) (tx : List Byte), (Instr.unknownRequestCode code tx).wellFormed = true →
            exec (.unknownRequestCode code tx) s = .next (ignored tx.length))
        ∧ ∀ clocked : Nat, exec (.fetchTransaction clocked) s = .next (ignored clocked))
    ∧ [Status.ok, .accepted, .busy, .badRequest, .badArg, .bayState, .mode, .unknownItem, .tableFull, .poolFull, .inUse,
        .pinned, .infeasible, .noTote].map Status.code
      = [0x01#8, 0x02#8, 0x03#8, 0x04#8, 0x05#8, 0x06#8, 0x07#8, 0x08#8, 0x09#8, 0x0A#8, 0x0B#8, 0x0C#8, 0x0D#8, 0x0E#8]

/-- READ_IDENTITY and READ_STATUS in every mode, and READ_CLOCK in every mode but LOADING, report as things stand and
change nothing else (R177), in the layouts of R185 and with the mode and loader codes of R183. -/
def Obligations.IdentityStatusAndClockReport : Prop :=
  (∀ (tx : List Byte) (s : State), s.listens → carries tx [] →
    exec (.readIdentity tx) s = .next (s.replied tx.length (okReply
        ([0x02, 0x40, 1] ++ be 1 s.ctl.station ++ [8, 64, 0x01, 0x00, s.ctl.mode.code])))
      ∧ exec (.readStatus tx) s = .next (s.replied tx.length (okReply
          ([s.ctl.mode.code, s.loader.state.code] ++ be 1 s.ctl.station ++ be 4 s.clock ++ be 2 s.totes.good
            ++ be 2 s.totes.malformed ++ be 2 s.totes.duplicate
            ++ be 1 (allBays.countP fun b => (s.bay b).isSome)
            ++ be 1 (64 - (allBays.map fun b => (s.linesOf b).length).sum)
            ++ be 2 s.items.length ++ be 1 s.lane.queue.length ++ be 1 s.li.queue.length
            ++ be 1 s.totes.table.length ++ be 2 s.peers.heard.length ++ be 2 s.port.flags.toNat)))
      ∧ (s.ctl.mode ≠ .loading → exec (.readClock tx) s = .next (s.replied tx.length (okReply (be 4 s.clock)))))
    ∧ [Mode.loading, .settling, .active, .closing, .quiet, .muted].map Mode.code = [0#8, 1#8, 2#8, 3#8, 4#8, 5#8]
    ∧ [LoaderState.idle, .loading, .writing].map LoaderState.code = [0#8, 1#8, 2#8]

/-- READ_EVENTS returns flags, cause and enables and clears flags and cause, and is answered BUSY in LOADING (R182);
SET_EVENT_ENABLES takes a mask of thirteen bits, evaluates ATTN at once and clears no flag, and refuses any higher bit
(R181). A flag once set stays set until a Read Events, whatever other command is taken, a Restart (R169) and a hard
reset (R161) apart; that RESET_LOW keeps it is the model's choice (log 22). The causes have the codes of R183. -/
def Obligations.ReadEventsClearsAndEnablesFollowTheMask : Prop :=
  [NoteCause.none, .clamped, .defaulted].map NoteCause.code = [0#8, 1#8, 2#8] ∧ (∀ s : State, s.listens →
    (∀ tx, carries tx [] →
      (s.ctl.mode = .loading → exec (.readEvents tx) s = .next (s.replied tx.length (bareReply .busy)))
        ∧ (s.ctl.mode ≠ .loading →
          exec (.readEvents tx) s = .next
            ((s.setPort { s.port with flags := 0, cause := .none, attn := false }).replied tx.length (okReply
              (be 2 s.port.flags.toNat ++ [s.port.cause.code] ++ be 2 s.port.enables.toNat)))))
      ∧ ∀ tx (hi lo : Byte), carries tx [hi, lo] → s.ctl.mode ≠ .loading →
        exec (.setEventEnables tx) s = .next
          (if hi.toNat * 256 + lo.toNat < 8192 then
            let mask := BitVec.ofNat 13 (hi.toNat * 256 + lo.toNat)
            (s.setPort { s.port with enables := mask, attn := decide (s.port.flags &&& mask ≠ 0#13) }).replied
              tx.length (okReply ([hi, lo] ++ be 2 s.port.flags.toNat))
          else s.replied tx.length (bareReply .badArg)))
    ∧ ∀ (c : Instr) (f : EventFlag) (s t : State), (∀ tx, c ≠ .readEvents tx) → (∀ straps tx, c ≠ .restart straps tx) →
      (∀ straps, c ≠ .hardReset straps) → f.isSet s.port = true → exec c s = .next t → f.isSet t.port = true

/-- READ_BAY (R178) in the layout of R185: an EMPTY bay by number and state alone, another with its fields, its
projection and its lines; a bay above 7 is BAD_ARG. -/
def Obligations.ReadBayReportsTheBuild : Prop :=
  [WorkState.gathering, .chilling, .ready].map WorkState.code = [1#8, 2#8, 3#8]
    ∧ ∀ (tx : List Byte) (n : Byte) (s : State), s.listens → s.ctl.mode ≠ .loading → carries tx [n] →
    (8 ≤ n.toNat → exec (.readBay tx) s = .next (s.replied tx.length (bareReply .badArg)))
      ∧ ∀ b : BayNo, b.val = n.toNat →
        (s.bay b = none → exec (.readBay tx) s = .next (s.replied tx.length (okReply [n, 0])))
          ∧ ∀ bd, s.bay b = some bd →
            exec (.readBay tx) s = .next (s.replied tx.length (okReply
              ([n, if bd.held = true then 4 else bd.work.code, if bd.held = true then bd.work.code else 0]
                ++ be 4 bd.orderRef.toNat ++ be 4 bd.deadline
                ++ [(if bd.deadlineReported = true then 1 else 0) + (if bd.lapse = true then 2 else 0)
                  + (if bd.chillExpiry = none then 0 else 4)]
                ++ be 4 (bd.chillExpiry.getD 0) ++ be 4 bd.floor ++ be 2 bd.ceiling ++ be 1 bd.lines.length
                ++ be 2 bd.total ++ be 2 (bd.lines.map fun l => l.ordered - l.placed).sum
                ++ be 4 (bd.lines.map fun l =>
                  l.placedValue + (l.ordered - l.placed) * unitValue s.items l.activeItem).sum
                ++ be 4 (bd.lines.map fun l =>
                  l.placedWeight + (l.ordered - l.placed) * unitWeight s.items l.activeItem).sum
                ++ bd.lines.zipIdx.flatMap fun li =>
                  be 1 li.2 ++ code16 li.1.primary ++ be 1 li.1.substitutes.length
                    ++ code16 (li.1.substitutes.getD 0 0) ++ code16 (li.1.substitutes.getD 1 0)
                    ++ code16 (li.1.substitutes.getD 2 0) ++ be 1 li.1.position ++ code16 li.1.activeItem
                    ++ be 1 li.1.ordered ++ be 1 li.1.placed ++ be 1 li.1.pinned
                    ++ be 1 (li.1.ordered - li.1.placed - li.1.pinned) ++ be 4 li.1.placedValue
                    ++ be 4 li.1.placedWeight ++ be 4 (li.1.wait.value s.clock)
                    ++ if advertised s.ctl.mode s.items bd li.1 = true then
                        [if li.1.exhausted = true then 7 else 6] ++ be 2 (scoreOf s.clock bd li.1)
                      else [if li.1.exhausted = true then 1 else 0, 0, 0])))

/-- READ_LANE (R134) in the layout of R185, with the level of LANE_FULL at the request (R123); it changes nothing. -/
def Obligations.ReadLaneReportsTheLane : Prop :=
  ∀ (laneFull : Bool) (tx : List Byte) (s : State), s.listens → s.ctl.mode ≠ .loading → carries tx [] →
    exec (.readLane laneFull tx) s = .next (s.replied tx.length (okReply
      (be 1 s.loader.active.laneCapacity ++ [if laneFull = true then 1 else 0] ++ be 2 s.lane.unexpected
        ++ be 1 s.lane.queue.length
        ++ s.lane.queue.flatMap fun e =>
          code16 e.tote ++ [e.serial] ++ code16 e.item ++ be 1 e.drawn
            ++ (match e.state with
              | .inbound => [0] ++ be 4 e.divertTime ++ [0, 0, 0, 0]
              | .atBench arrival => [1] ++ be 4 e.divertTime ++ be 4 arrival)
            ++ [if e.stale = true then 1 else 0] ++ be 1 e.allocations.length
            ++ e.allocations.flatMap fun a => be 1 a.bay.val ++ be 1 a.line ++ be 1 a.granted)))

/-- READ_PEERS (R179) in the layout of R185: the 32 roster records, the own number's place as OWN with zeros, and the
named peer's stored entries in ranking order, each above the next. -/
def Obligations.ReadPeersReportsTheRosterAndRankedEntries : Prop :=
  [PeerState.absent, .present, .silent].map PeerState.code = [0#8, 1#8, 2#8]
    ∧ ∀ (tx : List Byte) (n : Byte) (s : State), s.listens → s.ctl.mode ≠ .loading → carries tx [n] →
    (32 < n.toNat → exec (.readPeers tx) s = .next (s.replied tx.length (bareReply .badArg)))
      ∧ (n.toNat ≤ 32 →
        ∃ entries : List HeardEntry,
          entries.Perm (if n = 0 ∨ n.toNat = s.ctl.station then [] else s.heardOf n.toNat)
            ∧ entries.Pairwise (fun x y => ranksAbove y.key x.key = false)
            ∧ exec (.readPeers tx) s = .next (s.replied tx.length (okReply
              (be 1 s.ctl.station ++ be 2 s.peers.heard.length ++ be 2 s.peers.overflow
                ++ ((List.range 32).flatMap fun k =>
                  if k + 1 = s.ctl.station then [3, 0, 0, 0, 0, 0, 0, 0, 0, 0, 0]
                  else
                    let r := s.peer (k + 1)
                    [r.state.code, r.lastSequence.getD 0] ++ be 4 (r.lastHeard.getD 0) ++ be 2 r.heard
                      ++ be 2 r.gaps ++ be 1 (s.peers.heard.countP fun h => h.peer == k + 1))
                ++ be 1 entries.length
                ++ entries.flatMap fun h =>
                  be 1 h.entry.bay.toNat ++ be 1 h.entry.line.toNat ++ code16 h.entry.item ++ [h.entry.units]
                    ++ code16 h.entry.score ++ be 4 h.timeHeard))))

/-- READ_LINE_COUNTERS returns the eight counters and the queue length, then clears the counters and the
degraded-reported mark (R71, R72, R179); READ_SETTINGS reports the settings in force and changes nothing, and is
answered BUSY in LOADING (R171). The load outcomes have the codes of R183 and the outputs the layouts of R185. -/
def Obligations.LineCountersClearOnReadAndSettingsReport : Prop :=
  [LoadOutcome.loaded, .clamped, .defaulted].map LoadOutcome.code = [0#8, 1#8, 2#8]
    ∧ ∀ (tx : List Byte) (s : State), s.listens → carries tx [] →
    (s.ctl.mode ≠ .loading →
      exec (.readLineCounters tx) s = .next
        ((s.setLi
          { s.li with
            counters := { sent := 0, good := 0, fragments := 0, crcBad := 0, malformed := 0, collisions := 0,
                          dropped := 0, gaps := 0 }
            degraded := false }).replied tx.length (okReply
          (be 2 s.li.counters.sent ++ be 2 s.li.counters.good ++ be 2 s.li.counters.fragments
            ++ be 2 s.li.counters.crcBad ++ be 2 s.li.counters.malformed ++ be 2 s.li.counters.collisions
            ++ be 2 s.li.counters.dropped ++ be 2 s.li.counters.gaps ++ be 1 s.li.queue.length))))
      ∧ (s.ctl.mode = .loading → exec (.readSettings tx) s = .next (s.replied tx.length (bareReply .busy)))
      ∧ (s.ctl.mode ≠ .loading → exec (.readSettings tx) s = .next (s.replied tx.length (okReply
          (be 1 s.loader.active.laneCapacity ++ be 1 s.loader.active.drawLimit ++ be 1 s.loader.active.refresh
            ++ be 1 s.loader.active.silenceMultiplier ++ be 2 s.loader.active.substituteWait
            ++ be 2 s.loader.active.chillWindow ++ be 1 s.loader.active.confirmLimit
            ++ be 2 s.loader.active.dwellLimit ++ be 1 s.loader.active.errorThreshold
            ++ be 2 (2 * s.loader.active.refresh)
            ++ be 2 (s.loader.active.silenceMultiplier * s.loader.active.refresh)
            ++ [s.loader.outcome.code, s.loader.state.code]))))

/-! ## Items and builds -/

/-- LOAD_ITEMS (R3, R4): the records are taken in order, each against the table the earlier ones left, up to the first
that fails a check; what was taken stays, and the reply carries its number. A count of 0 or above 8 takes none. -/
def Obligations.LoadItemsTakesRecordsUpToTheFirstFailure : Prop :=
  ∀ (tx : List Byte) (s : State), s.listens → s.ctl.mode ≠ .loading →
    (∀ taken rest : List RawItem, (∀ r ∈ taken ++ rest, r.fits) →
      1 ≤ (taken ++ rest).length → (taken ++ rest).length ≤ 8 → carries tx (loadItemsBlock (taken ++ rest)) →
      (∀ k r, taken[k]? = some r → s.itemRefusal ((taken.take k).foldl tableWith s.items) r = none) →
      ∀ st : Status,
        (match rest with
          | [] => st = .ok
          | r :: _ => s.itemRefusal (taken.foldl tableWith s.items) r = some st) →
        exec (.loadItems tx) s = .next ((s.setItems (taken.foldl tableWith s.items)).replied tx.length
          { status := st, output := [BitVec.ofNat 8 taken.length] }))
      ∧ ∀ rs : List RawItem, rs.length = 0 ∨ 8 < rs.length → carries tx (loadItemsBlock rs) →
        exec (.loadItems tx) s = .next (s.replied tx.length { status := .badArg, output := [0] })

/-- REMOVE_ITEM (R5): the first of its three checks that fails answers; otherwise the record alone is removed. In
LOADING it is answered BUSY. -/
def Obligations.RemoveItemTakesOutAnUnusedRecord : Prop :=
  ∀ (tx : List Byte) (code : ItemCode) (s : State), s.listens → carries tx (code16 code) →
    (s.ctl.mode = .loading → exec (.removeItem tx) s = .next (s.replied tx.length (bareReply .busy)))
      ∧ (s.ctl.mode ≠ .loading →
        exec (.removeItem tx) s = .next
          (if code = 0 then s.replied tx.length (bareReply .badArg)
          else if (∀ r ∈ s.items, r.code ≠ code) then s.replied tx.length (bareReply .unknownItem)
          else if (∃ b, ∃ l ∈ s.linesOf b, l.primary = code ∨ code ∈ l.substitutes) then
            s.replied tx.length (bareReply .inUse)
          else (s.setItems (s.items.filter fun r => r.code != code)).replied tx.length (okReply [])))

/-- An OPEN_BUILD that passes every check of R14 (R15, R16): the build it sets up, the accumulators started (R47, R48),
a deadline of 0 seconds or one at the clock's end taken at once (R37, R159; inside the step by log 11), the change
check, and the reply. At the clock's largest value a substitute wait it starts is left to its own command and no line is
tried within the step, though R159 has its expiry taken at once (the model's choice, log 31). -/
def Obligations.OpenBuildSetsUpTheBuild : Prop :=
  ∀ (tx : List Byte) (p : BuildParams) (b : BayNo) (s : State), s.listens → s.ctl.mode ≠ .loading → p.fits →
    s.settingsInRange → carries tx p.bytes → b.val = p.bay → s.bay b = none → s.acceptsBuild p →
    let deadline := min (s.clock + p.deadlineSeconds * 10) 4294967295
    let total := (p.lines.map (·.ordered)).sum
    let anyAmbient := p.lines.any fun e => !isChilled s.items e.primary
    let advertises := s.ctl.mode = .settling ∨ s.ctl.mode = .active
    let late := decide (deadline ≤ s.clock)
    let line (e : LineParams) : Line :=
      { primary := e.primary, substitutes := e.substitutes, position := 0, ordered := e.ordered, placed := 0
        pinned := 0, placedValue := 0, placedWeight := 0
        wait :=
          { stored := 0
            runStart := if advertises ∧ isChilled s.items e.primary = !anyAmbient then some s.clock else none }
        exhausted := false, trialMark := false }
    let build : Build :=
      { work := if anyAmbient = true then .gathering else .chilling
        held := false, orderRef := p.orderRef, deadline := deadline, deadlinePending := !late
        floor := p.floor, ceiling := p.ceiling, lines := p.lines.map line, total := total
        chillExpiry := none, deadlineReported := late, lapse := false }
    let opened := s.setBay b (some build)
    exec (.openBuild tx) s = .next
      ((if late = true then opened.record (.deadlineMissed b p.orderRef) else opened).changeCheck.replied tx.length
        (okReply (be 1 p.bay ++ be 4 deadline ++ be 2 total
          ++ be 4 (p.lines.map fun e => e.ordered * unitValue s.items e.primary).sum
          ++ be 4 (p.lines.map fun e => e.ordered * unitWeight s.items e.primary).sum
          ++ be 1 (s.poolFree - p.lines.length))))

/-- OPEN_BUILD (R14): the first check that fails answers with its status and changes nothing. So a line count of 0 or
above 12 is answered BAY_STATE or MODE where check 2 or 3 fails too, though R185 has BAD_ARG for it (the model's choice,
log 38). -/
def Obligations.OpenBuildRefusesAtTheFirstFailingCheck : Prop :=
  ∀ (tx : List Byte) (p : BuildParams) (s : State), s.listens → s.ctl.mode ≠ .loading → p.fits → carries tx p.bytes →
    let check1 := p.bay ≤ 7
    let check2 := ∀ b : BayNo, b.val = p.bay → s.bay b = none
    let check3 := s.ctl.mode ≠ .closing
    let check4 := 1 ≤ p.lines.length ∧ p.lines.length ≤ 12 ∧ 1 ≤ p.ceiling
      ∧ ∀ e ∈ p.lines, 1 ≤ e.ordered ∧ e.ordered ≤ 24 ∧ e.substituteCount ≤ 3 ∧ e.primary ≠ 0
        ∧ (∀ c ∈ e.substitutes, c ≠ 0) ∧ e.primary ∉ e.substitutes ∧ e.substitutes.Nodup
    let check5 := ∀ e ∈ p.lines, ∀ c ∈ e.primary :: e.substitutes, ∃ r ∈ s.items, r.code = c
    let check6 := ∀ e ∈ p.lines, ∀ c ∈ e.substitutes, isChilled s.items c = isChilled s.items e.primary
    let check7 := p.lines.length ≤ s.poolFree
    let check8 := p.floor ≤ (p.lines.map fun e => e.ordered * unitValue s.items e.primary).sum
      ∧ (p.lines.map fun e => e.ordered * unitWeight s.items e.primary).sum ≤ p.ceiling
    let refused (st : Status) : Prop := exec (.openBuild tx) s = .next (s.replied tx.length (bareReply st))
    (¬ check1 → refused .badArg)
      ∧ (check1 → ¬ check2 → refused .bayState)
      ∧ (check1 → check2 → ¬ check3 → refused .mode)
      ∧ (check1 → check2 → check3 → ¬ check4 → refused .badArg)
      ∧ (check1 → check2 → check3 → check4 → ¬ check5 → refused .unknownItem)
      ∧ (check1 → check2 → check3 → check4 → check5 → ¬ check6 → refused .badArg)
      ∧ (check1 → check2 → check3 → check4 → check5 → check6 → ¬ check7 → refused .poolFull)
      ∧ (check1 → check2 → check3 → check4 → check5 → check6 → check7 → ¬ check8 → refused .infeasible)

/-- CANCEL_BUILD (R20) and SEAL_BUILD (R21): their checks in order; an accepted one answers and returns the bay to
EMPTY (R19), with the change check (R91) and, where that leaves a CLOSING station finished, QUIET with MODE_CHANGED
(R167). -/
def Obligations.CancelAndSealReturnTheBayToEmpty : Prop :=
  ∀ (tx : List Byte) (n : Byte) (s : State), s.listens → s.ctl.mode ≠ .loading → carries tx [n] →
    let emptied (b : BayNo) (r : Reply) (t : State) : Prop :=
      let u := s.setBay b none
      let finished := s.ctl.mode = .closing ∧ (∀ c, u.bay c = none) ∧ s.lane.queue = []
      t.bays = u.bays
        ∧ t.ctl = (if finished then { s.ctl with mode := .quiet } else s.ctl)
        ∧ (¬ finished → t.li = u.changeCheck.li) ∧ s.li.withMarker t.li
        ∧ t.port.holds tx.length r ∧ s.port.onlyRaises t.port [.modeChanged]
        ∧ (EventFlag.modeChanged.isSet t.port = true ↔ EventFlag.modeChanged.isSet s.port = true ∨ finished)
        ∧ s.changedOnly t [.bays, .ctl, .li, .port]
    (8 ≤ n.toNat →
      exec (.cancelBuild tx) s = .next (s.replied tx.length (bareReply .badArg))
        ∧ exec (.sealBuild tx) s = .next (s.replied tx.length (bareReply .badArg)))
      ∧ ∀ b : BayNo, b.val = n.toNat →
        (s.bay b = none →
          exec (.cancelBuild tx) s = .next (s.replied tx.length (bareReply .bayState))
            ∧ exec (.sealBuild tx) s = .next (s.replied tx.length (bareReply .bayState)))
          ∧ ∀ bd, s.bay b = some bd →
            ((∃ l ∈ bd.lines, 0 < l.pinned) →
              exec (.cancelBuild tx) s = .next (s.replied tx.length (bareReply .pinned)))
              ∧ ((∀ l ∈ bd.lines, l.pinned = 0) →
                ∃ t, exec (.cancelBuild tx) s = .next t
                  ∧ emptied b (okReply (be 4 bd.orderRef.toNat ++ be 1 bd.lines.length)) t)
              ∧ (bd.work ≠ .ready ∨ bd.held = true →
                exec (.sealBuild tx) s = .next (s.replied tx.length (bareReply .bayState)))
              ∧ (bd.work = .ready → bd.held = false →
                ∃ t, exec (.sealBuild tx) s = .next t
                  ∧ emptied b (okReply
                    (be 4 bd.orderRef.toNat ++ be 1 bd.lines.length
                      ++ (bd.lines.zipIdx.flatMap fun li =>
                        be 1 li.2 ++ code16 li.1.activeItem ++ be 1 li.1.placed
                          ++ [if li.1.position = 0 then 0 else 1])
                      ++ be 4 (bd.lines.map (·.placedValue)).sum ++ be 4 (bd.lines.map (·.placedWeight)).sum)) t)

/-- HOLD_BAYS (R34): the named bays that hold a build not HELD enter HELD, keeping the state they leave as their resume
state; their accumulators stop (R48); the reply names them, and one change check follows if there is one (R25). -/
def Obligations.HoldBaysMovesTheNamedBaysToHeld : Prop :=
  ∀ (tx : List Byte) (mask : Byte) (s : State), s.listens → s.ctl.mode ≠ .loading → carries tx [mask] →
    let moves (b : BayNo) : Bool := mask.getLsbD b.val && (s.bay b).any fun bd => !bd.held
    let held (bd : Build) : Build :=
      { bd with
        held := true
        lines := bd.lines.map fun l =>
          { l with wait := { stored := l.wait.value s.clock, runStart := none } } }
    let t := s.setBays (Vector.ofFn fun b : Fin 8 => if moves b = true then (s.bay b).map held else s.bay b)
    ∃ named : Byte, (∀ b : BayNo, named.getLsbD b.val = moves b)
      ∧ exec (.holdBays tx) s = .next
        ((if ∀ b, moves b = false then t else t.changeCheck).replied tx.length (okReply [named]))

/-- RELEASE_BAYS (R35) completes in every mode but LOADING: the named HELD bays enter their resume state; a lapsed chill
window restarts and the lapse flag clears, another stays as it stands; BAY_READY is set where a bay enters READY (R29);
the accumulators of those bays are evaluated (R48) and resume from the values they held, a line whose expiry is then
already reached being tried at once and no other (R138): one whose wait has reached its limit, or at the clock's largest
value any that starts with a clear trial mark (the model's choice, log 31); and one change check follows (R25). -/
def Obligations.ReleaseBaysReturnsToTheResumeState : Prop :=
  ∀ (tx : List Byte) (mask : Byte) (s : State), s.listens → s.ctl.mode ≠ .loading → carries tx [mask] →
    let moves (b : BayNo) : Bool := mask.getLsbD b.val && (s.bay b).any fun bd => bd.held
    let released (bd : Build) : Build :=
      { bd with
        held := false
        chillExpiry :=
          if bd.lapse = true then some (min (s.clock + s.loader.active.chillWindow * 10) 4294967295)
          else bd.chillExpiry
        lapse := false }
    let entersReady := ∃ b bd, moves b = true ∧ s.bay b = some bd ∧ bd.work = .ready
    let u := s.setBays (Vector.ofFn fun b : Fin 8 => if moves b = true then (s.bay b).map released else s.bay b)
    ∃ named : Byte, (∀ b : BayNo, named.getLsbD b.val = moves b)
      ∧ ((∀ b, moves b = false) → exec (.releaseBays tx) s = .next (s.replied tx.length (okReply [named])))
      ∧ ((∃ b, moves b = true) →
        ∃ v t, (entersReady → v = u.setFlag .bayReady) ∧ (¬ entersReady → v = u)
          ∧ exec (.releaseBays tx) s = .next t
          ∧ t = ((v.reevaluate (allBays.filter moves)).changeCheck).replied tx.length (okReply [named])
          ∧ u.triesMade t (allBays.filter moves) ∧ t.changeCheck.li = t.li
          ∧ u.sameStock t ∧ (∀ b, moves b = true → t.waitsFollow b)
          ∧ (∀ b, moves b = false → (t.bay b) = s.bay b)
          ∧ s.li.withMarker t.li ∧ s.dev.withTrials s.clock t.dev
          ∧ t.port.holds tx.length (okReply [named]) ∧ s.port.onlyRaises t.port [.bayReady, .deviation]
          ∧ (EventFlag.bayReady.isSet t.port = true ↔ EventFlag.bayReady.isSet s.port = true ∨ entersReady)
          ∧ s.changedOnly t [.bays, .li, .dev, .port, .draws])

/-! ## The bench lane's requests -/

/-- CONFIRM_PICK (R128): with no AT_BENCH entry, a count of taken counts other than the number of allocations, or a
taken count above what was granted, nothing changes; RETURN_TOTE (R132) with no AT_BENCH entry neither. With no AT_BENCH
entry a count of 0 or above 8 is answered NO_TOTE too, by the order of R128, where R185 has BAD_ARG (the model's choice,
log 34). -/
def Obligations.PickAndReturnRefuseWithoutEffect : Prop :=
  ∀ (tx : List Byte) (s : State), s.listens → s.ctl.mode ≠ .loading →
    (∀ taken : List Byte, taken.length ≤ 249 → carries tx (BitVec.ofNat 8 taken.length :: taken) →
      ((∀ e ∈ s.lane.queue, e.state = .inbound) →
        exec (.confirmPick tx) s = .next (s.replied tx.length (bareReply .noTote)))
        ∧ ∀ e, s.headAtBench = some e →
          taken.length ≠ e.allocations.length
            ∨ (∃ (k : Nat) (a : Allocation) (x : Byte), e.allocations[k]? = some a ∧ taken[k]? = some x ∧ a.granted < x.toNat) →
          exec (.confirmPick tx) s = .next (s.replied tx.length (bareReply .badArg)))
      ∧ (carries tx [] → (∀ e ∈ s.lane.queue, e.state = .inbound) →
        exec (.returnTote tx) s = .next (s.replied tx.length (bareReply .noTote)))

/-- An accepted CONFIRM_PICK (R10, R27 to R30, R49, R124, R125, R129 to R131): the placements, chill windows and
completions of every bay; a wait set to 0 and the trial mark cleared where units were taken, and kept elsewhere but for
the lines tried at once (R138; at the clock's largest value every line that starts with a clear trial mark, one whose
wait was set to 0 too, the model's choice, log 31); for a short pick the tote's count settled, the TALLY offered and
SHORT_TOTE recorded; MERGE high; the entry out of the lane; the accumulators evaluated, one change check and the CLOSING
check; and the reply, with the lane entry's fill serial (the model's choice, log 35). That a tote without an entry
settles nothing is the model's choice (log 18); GATHERING may go to READY at once (log 24). -/
def Obligations.ConfirmPickPlacesAndEndsTheDeparture : Prop :=
  ∀ (tx taken : List Byte) (e : LaneEntry) (s : State), s.listens → s.ctl.mode ≠ .loading →
    carries tx (BitVec.ofNat 8 taken.length :: taken) → s.headAtBench = some e →
    taken.length = e.allocations.length →
    (∀ (k : Nat) (a : Allocation) (x : Byte), e.allocations[k]? = some a → taken[k]? = some x → x.toNat ≤ a.granted) →
    let counts := taken.map (·.toNat)
    let xs := e.allocations.zip counts
    let isShort := decide (counts.sum < e.drawn)
    let settled (x : ToteEntry) : ToteEntry :=
      if x.serial = e.serial then { x with remaining := 0, uncertain := false, touched := s.clock } else x
    let entersReady := ∃ b bd, s.bay b = some bd ∧ bd.held = false ∧ bd.work ≠ .ready
      ∧ (s.pickedBuild xs b bd).work = .ready
    let reply := okReply
      (code16 e.tote ++ [e.serial] ++ be 1 e.drawn ++ be 1 counts.sum ++ [if isShort = true then 1 else 0])
    let placed := s.setBays (Vector.ofFn fun b : Fin 8 => (s.bay b).map (s.pickedBuild xs b))
    let totes := { s.totes with table := s.totes.table.map fun x => if x.tote = e.tote then settled x else x }
    let offering (v : State) : State :=
      match s.toteEntry e.tote with
      | some x => v.offerTally (settled x).tally
      | none => v
    let offered := if isShort = true then offering s else s
    let settling (v : State) : State :=
      if isShort = true then (offering (v.setTotes totes)).record (.shortTote e.tote e.item e.drawn counts.sum) else v
    ∃ v u t, (entersReady → v = placed.setFlag .bayReady) ∧ (¬ entersReady → v = placed)
      ∧ u = (settling v).setLane { s.lane with queue := s.laneWithout e.tote, merge := true }
      ∧ exec (.confirmPick tx) s = .next t
      ∧ t = ((u.reevaluate (namedBays e.allocations)).changeCheck).closingChecked.replied tx.length reply
      ∧ u.triesMade t (namedBays e.allocations)
      ∧ (∀ b, (t.bay b).map Build.stock = ((s.bay b).map (s.pickedBuild xs b)).map Build.stock)
      ∧ (∀ b bd' i l', t.bay b = some bd' → bd'.lines[i]? = some l' → 0 < countOn b i xs →
          l'.wait.value s.clock = 0)
      ∧ (∀ a ∈ e.allocations, t.waitsFollow a.bay)
      ∧ t.totes = (if isShort = true then totes else s.totes)
      ∧ offered.li.withMarker t.li
      ∧ s.port.onlyRaises t.port [.bayReady, .deviation, .noticeLost, .modeChanged]
      ∧ EventFlag.noticeLost.isSet t.port = EventFlag.noticeLost.isSet offered.port
      ∧ (EventFlag.bayReady.isSet t.port = true ↔ EventFlag.bayReady.isSet s.port = true ∨ entersReady)
      ∧ (if isShort = true then s.dev.add s.clock (.shortTote e.tote e.item e.drawn counts.sum) else s.dev).withTrials
          s.clock t.dev
      ∧ (isShort = true → EventFlag.deviation.isSet t.port = true)
      ∧ t.lane = { s.lane with queue := s.laneWithout e.tote, merge := true }
      ∧ t.ctl = { s.ctl with mode := s.modeAfter (s.laneWithout e.tote) }
      ∧ t.port.holds tx.length reply
      ∧ s.changedOnly t [.ctl, .bays, .li, .totes, .lane, .dev, .port, .draws]

/-- An accepted RETURN_TOTE (R9, R107, R120, R124, R125, R132): the units unpinned, the tote's count restored, the TALLY
offered, MERGE high, the entry out of the lane, the accumulators evaluated with their values kept but for the lines
tried at once (R138; at the clock's largest value every line that starts with a clear trial mark, the model's choice,
log 31), one change check and the CLOSING check, and the reply with the count the TALLY carries and the lane entry's
fill serial (log 35). A lane entry whose tote has no tote entry, which R100 rules out, is left to log 18. -/
def Obligations.ReturnToteRestoresAndEndsTheDeparture : Prop :=
  ∀ (tx : List Byte) (e : LaneEntry) (x : ToteEntry) (s : State), s.listens → s.ctl.mode ≠ .loading →
    carries tx [] → s.headAtBench = some e → s.toteEntry e.tote = some x →
    let settled (y : ToteEntry) : ToteEntry :=
      if y.serial = e.serial then { y with remaining := min 255 (y.remaining + e.drawn), touched := s.clock } else y
    let u := (((s.setBays (Vector.ofFn fun b : Fin 8 => (s.bay b).map (Build.unpinned e.allocations b))).setTotes
      { s.totes with table := s.totes.table.map fun y => if y.tote = e.tote then settled y else y }).offerTally
        (settled x).tally).setLane { s.lane with queue := s.laneWithout e.tote, merge := true }
    let reply := okReply (code16 e.tote ++ [e.serial] ++ be 1 (settled x).remaining)
    ∃ t, exec (.returnTote tx) s = .next t
      ∧ t = ((u.reevaluate (namedBays e.allocations)).changeCheck).closingChecked.replied tx.length reply
      ∧ u.triesMade t (namedBays e.allocations)
      ∧ (∀ b, (t.bay b).map Build.stock = ((s.bay b).map (Build.unpinned e.allocations b)).map Build.stock)
      ∧ (∀ a ∈ e.allocations, t.waitsFollow a.bay)
      ∧ t.totes = { s.totes with table := s.totes.table.map fun y => if y.tote = e.tote then settled y else y }
      ∧ (s.offerTally (settled x).tally).li.withMarker t.li
      ∧ s.port.onlyRaises t.port [.deviation, .noticeLost, .modeChanged]
      ∧ EventFlag.noticeLost.isSet t.port = EventFlag.noticeLost.isSet (s.offerTally (settled x).tally).port
      ∧ s.dev.withTrials s.clock t.dev
      ∧ t.lane = { s.lane with queue := s.laneWithout e.tote, merge := true }
      ∧ t.ctl = { s.ctl with mode := s.modeAfter (s.laneWithout e.tote) }
      ∧ t.port.holds tx.length reply
      ∧ s.changedOnly t [.ctl, .bays, .li, .totes, .lane, .dev, .port, .draws]

/-! ## Deviations, modes and settings -/

/-- READ_DEVIATIONS (R155): its two checks of the Bench Port, BAD_ARG for a count outside 1..8, and otherwise the
figures and the records from the start index, the oldest first, in the layout of R186 with the kind codes of R183;
nothing else changes. -/
def Obligations.ReadDeviationsReturnsAPage : Prop :=
  ∀ (tx block : List Byte) (s : State), s.listens → carries tx block →
    (block.length ≠ 2 → exec (.readDeviations tx) s = .next (s.replied tx.length (bareReply .badRequest)))
      ∧ ∀ start count : Byte, block = [start, count] →
        (s.ctl.mode = .loading → exec (.readDeviations tx) s = .next (s.replied tx.length (bareReply .busy)))
          ∧ (s.ctl.mode ≠ .loading →
            (count.toNat = 0 ∨ 8 < count.toNat →
              exec (.readDeviations tx) s = .next (s.replied tx.length (bareReply .badArg)))
              ∧ (1 ≤ count.toNat → count.toNat ≤ 8 →
                let held := s.dev.records.length
                let last := min (start.toNat + count.toNat) held
                let page := (s.dev.records.take last).drop start.toNat
                let long (kind : Byte) (bay ref line : List Byte) (first second : BitVec 16) (a b : Nat) : List Byte :=
                  [kind, 1] ++ bay ++ ref ++ line ++ code16 first ++ code16 second ++ be 1 a ++ be 1 b ++ [0]
                let short (kind : Byte) (bay ref line : List Byte) : List Byte := [kind, 0] ++ bay ++ ref ++ line
                let layout (d : Deviation) : List Byte :=
                  be 2 d.number ++ be 4 d.time
                    ++ match d.kind with
                      | .substituted b ref line fromItem toItem units =>
                        long 1 (be 1 b.val) (be 4 ref.toNat) (be 1 line) fromItem toItem units 0
                      | .substituteExhausted b ref line => short 2 (be 1 b.val) (be 4 ref.toNat) (be 1 line)
                      | .chillLapse b ref => short 3 (be 1 b.val) (be 4 ref.toNat) [0xFF]
                      | .deadlineMissed b ref => short 4 (be 1 b.val) (be 4 ref.toNat) [0xFF]
                      | .shortTote tote item drawn taken => long 5 [0xFF] [0, 0, 0, 0] [0xFF] tote item drawn taken
                      | .divertMissed tote item drawn => long 6 [0xFF] [0, 0, 0, 0] [0xFF] tote item drawn 0
                exec (.readDeviations tx) s = .next (s.replied tx.length (okReply
                    (be 1 held ++ be 2 s.dev.sinceClear ++ be 4 s.dev.lastClear ++ be 1 page.length
                      ++ page.flatMap layout)))
                  ∧ page.length = last - start.toNat
                  ∧ ∀ k, k < page.length → page[k]? = s.dev.records[start.toNat + k]?))

/-- CLEAR_DEVIATIONS (R156): its two checks of the Bench Port; the reply's figures are those before the clear, the list
is emptied, the counter 0, the time of last clear now, and DEVIATION stays as it stands. -/
def Obligations.ClearDeviationsEmptiesTheTable : Prop :=
  ∀ (tx block : List Byte) (s : State), s.listens → carries tx block →
    (block ≠ [] → exec (.clearDeviations tx) s = .next (s.replied tx.length (bareReply .badRequest)))
      ∧ (block = [] →
        (s.ctl.mode = .loading → exec (.clearDeviations tx) s = .next (s.replied tx.length (bareReply .busy)))
          ∧ (s.ctl.mode ≠ .loading →
            exec (.clearDeviations tx) s = .next
              ((s.setDev { records := [], sinceClear := 0, lastClear := s.clock }).replied tx.length (okReply
                (be 1 s.dev.records.length ++ be 2 s.dev.sinceClear ++ be 4 s.clock)))
              ∧ ∀ (now : Nat) (k : DeviationKind),
                (({ records := [], sinceClear := 0, lastClear := s.clock } : DeviationTable).add now k).records
                  = [{ number := 1, time := now, kind := k }]))

/-- SET_MODE (R166): BAD_ARG for a value other than ACTIVE, CLOSING and QUIET, MODE from another present mode, no change
where the value names the present mode; otherwise the mode, the accumulators evaluated with their values kept but for
the lines tried at once (R48, R138, R165; at the clock's largest value a line whose wait is below its limit too, the
model's choice, log 31), one change check and, for CLOSING, the CLOSING check (R167), with the modes before and after in
the reply. -/
def Obligations.SetModeMovesAmongItsThreeModes : Prop :=
  ∀ (tx : List Byte) (value : Byte) (s : State), s.listens → s.ctl.mode ≠ .loading → carries tx [value] →
    (value ∉ [2#8, 3#8, 4#8] → exec (.setMode tx) s = .next (s.replied tx.length (bareReply .badArg)))
      ∧ ∀ m : Mode, m ∈ [Mode.active, Mode.closing, Mode.quiet] → m.code = value →
        (s.ctl.mode ∉ [Mode.active, Mode.closing, Mode.quiet] →
          exec (.setMode tx) s = .next (s.replied tx.length (bareReply .mode)))
          ∧ (s.ctl.mode = m → exec (.setMode tx) s = .next (s.replied tx.length (okReply [value, value])))
          ∧ (s.ctl.mode ∈ [Mode.active, Mode.closing, Mode.quiet] → s.ctl.mode ≠ m →
            let finished := m = .closing ∧ (∀ b, s.bay b = none) ∧ s.lane.queue = []
            let after : Mode := if finished then .quiet else m
            let u := s.setCtl { s.ctl with mode := m }
            let reply := okReply [s.ctl.mode.code, after.code]
            ∃ t, exec (.setMode tx) s = .next t
              ∧ t = ((u.reevaluate allBays).changeCheck).closingChecked.replied tx.length reply
              ∧ u.triesMade t allBays
              ∧ t.ctl = { s.ctl with mode := after } ∧ (∀ b, t.waitsFollow b)
              ∧ s.sameStock t ∧ s.li.withMarker t.li ∧ s.dev.withTrials s.clock t.dev
              ∧ t.port.holds tx.length reply
              ∧ s.port.onlyRaises t.port [.deviation, .modeChanged]
              ∧ (EventFlag.modeChanged.isSet t.port = true ↔ EventFlag.modeChanged.isSet s.port = true ∨ finished)
              ∧ s.changedOnly t [.ctl, .bays, .li, .dev, .port, .draws])

/-- WRITE_SETTINGS and the two accesses it starts (R170): BAD_ARG where a field is outside its range, BUSY where the
loader is not IDLE; otherwise ACCEPTED, with an empty output (the model's choice, log 36), and WRITING, the first eight
bytes of the record and then the last eight, and SETTINGS_WRITTEN or, at a timeout, SETTINGS_FAILED, with the loader
IDLE and the active settings as they were. -/
def Obligations.WriteSettingsWritesTheRecordInTwoAccesses : Prop :=
  ∀ s : State, s.resetLow = false →
    let inRange (g : Settings) : Prop :=
      1 ≤ g.laneCapacity ∧ g.laneCapacity ≤ 4 ∧ 1 ≤ g.drawLimit ∧ g.drawLimit ≤ 24 ∧ 1 ≤ g.refresh ∧ g.refresh ≤ 10
        ∧ 3 ≤ g.silenceMultiplier ∧ g.silenceMultiplier ≤ 10 ∧ 30 ≤ g.substituteWait ∧ g.substituteWait ≤ 1800
        ∧ 60 ≤ g.chillWindow ∧ g.chillWindow ≤ 1800 ∧ 1 ≤ g.confirmLimit ∧ g.confirmLimit ≤ 20
        ∧ 30 ≤ g.dwellLimit ∧ g.dwellLimit ≤ 600 ∧ 1 ≤ g.errorThreshold ∧ g.errorThreshold ≤ 255
    (∀ (tx : List Byte) (g : Settings), s.port.state = .idle → s.ctl.mode ≠ .loading → carries tx g.bytes →
      (inRange g → s.loader.state ≠ .idle →
        exec (.writeSettings tx) s = .next (s.replied tx.length (bareReply .busy)))
        ∧ (inRange g → s.loader.state = .idle →
          ∃ sum : Byte,
            sum = BitVec.ofNat 8 ((([0x48, 0x42, 1] ++ g.bytes).map fun x : Byte => x.toNat).sum)
              ∧ exec (.writeSettings tx) s = .next
                ((s.setLoader
                  { s.loader with
                    state := .writing
                    bus := .writing
                      { device := 0x50, address := 0x00, data := ([0x48, 0x42, 1] ++ g.bytes).take 8 }
                      (some { device := 0x50, address := 0x08, data := ([0x48, 0x42, 1] ++ g.bytes).drop 8 ++ [sum] })
                  }).replied tx.length (bareReply .accepted))))
      ∧ (∀ (tx : List Byte) (block : List Byte), s.port.state = .idle → s.ctl.mode ≠ .loading → carries tx block →
        block.length = 12 → ¬ inRange (parseSettings block) →
          exec (.writeSettings tx) s = .next (s.replied tx.length (bareReply .badArg)))
      ∧ (∀ (a b : WriteAccess), s.loader.bus = .writing a (some b) →
        exec .writeAccessEnd s = .next (s.setLoader { s.loader with bus := .writing b none }))
      ∧ (∀ a : WriteAccess, s.loader.bus = .writing a none →
        exec .writeAccessEnd s = .next
          ((s.setLoader { s.loader with state := .idle, bus := .released }).setFlag .settingsWritten))
      ∧ ∀ (a : WriteAccess) (rest : Option WriteAccess), s.loader.bus = .writing a rest →
        exec .writeAccessTimeout s = .next
          ((s.setLoader { s.loader with state := .idle, bus := .released }).setFlag .settingsFailed)

/-! ## The reader and the share decision -/

/-- The reader port decoder (R95 to R97), character by character: stopped, it decodes nothing; after a start it waits
for an idle line; seven characters stand in assembly and the eighth completes the frame; what follows is one overlong
tail. A frame that fails one of checks 1 to 4, a short frame and a tail count as malformed, a read of a tote in the lane
as duplicate, and none does anything else. The commands that bring the characters are the model's choice (log 33). -/
def Obligations.ReaderFramesAreCountedAndIgnored : Prop :=
  ∀ s : State, s.resetLow = false →
    let goesTo (d : ReaderDecoder) : State := s.setTotes { s.totes with decoder := d }
    let malformed (d : ReaderDecoder) : State :=
      s.setTotes { s.totes with decoder := d, malformed := min (s.totes.malformed + 1) 65535 }
    let idled : State :=
      match s.totes.decoder with
      | .stopped => s
      | .waiting => goesTo (.assembling [])
      | .assembling frame => if frame = [] then s else malformed (.assembling [])
      | .taken tail => if tail = true then malformed (.assembling []) else goesTo (.assembling [])
    (s.totes.decoder = .stopped → exec .shortReaderFrame s = .next s
        ∧ ∀ earlier last laneFull, exec (.tagRead earlier last laneFull) s = .next s)
      ∧ (s.totes.decoder = .waiting → exec .shortReaderFrame s = .next (goesTo (.assembling []))
        ∧ ∀ last laneFull, exec (.tagRead [] last laneFull) s = .next s)
      ∧ (∀ tail, s.totes.decoder = .taken tail → exec .shortReaderFrame s = .next (malformed (.assembling []))
        ∧ ∀ last laneFull, exec (.tagRead [] last laneFull) s = .next (goesTo (.taken true)))
      ∧ (∀ frame, s.totes.decoder = .assembling frame → exec .shortReaderFrame s = .next (malformed (.assembling []))
        ∧ ∀ (last : ReaderChar) (laneFull : Bool),
          (frame.length < 7 → exec (.tagRead [] last laneFull) s = .next (goesTo (.assembling (frame ++ [last]))))
            ∧ (frame.length = 7 →
              let byte (k : Nat) : Byte := ((frame ++ [last]).map (·.data)).getD k 0
              let tote : ToteId := byte 1 ++ byte 2
              let item : ItemCode := byte 3 ++ byte 4
              let good := (∀ c ∈ frame ++ [last], c.stop = true) ∧ byte 0 = 0xA5
                ∧ byte 7 = byte 1 ^^^ byte 2 ^^^ byte 3 ^^^ byte 4 ^^^ byte 5 ^^^ byte 6 ∧ tote ≠ 0 ∧ item ≠ 0
              (¬ good → exec (.tagRead [] last laneFull) s = .next (malformed (.taken false)))
                ∧ (good → (∃ e ∈ s.lane.queue, e.tote = tote) →
                  exec (.tagRead [] last laneFull) s = .next
                    (s.setTotes
                      { s.totes with
                        decoder := .taken false, duplicate := min (s.totes.duplicate + 1) 65535 }))))
      ∧ (∀ rest last laneFull,
        exec (.tagRead (.idle :: rest) last laneFull) s = exec (.tagRead rest last laneFull) idled)
      ∧ ∀ c rest last laneFull t, exec (.tagRead [] c laneFull) s = .next t →
        exec (.tagRead (.character c :: rest) last laneFull) s = exec (.tagRead rest last laneFull) t

/-- A good TAG_READ (R96, R102, R106, R109, R115, R116, R119): the tote's entry set from the tag, or for the same fill
its count kept; the tote passes where a divert is not possible, nothing is granted or the DRAW is refused; otherwise the
DRAW joins the queue, the entry joins the lane, DIVERT rises, the grants are pinned, the accumulators evaluated with
their values kept but for the lines tried at once (R48, R138; at the clock's largest value every line that starts with a
clear trial mark, the model's choice, log 31), the draw subtracted and one change check made. -/
def Obligations.GoodTagReadUpdatesTheToteAndMayDivert : Prop :=
  ∀ (assembled more : List ReaderChar) (last : ReaderChar) (laneFull : Bool) (tag : Tag) (s : State),
    s.resetLow = false → s.totes.decoder = .assembling assembled →
    (assembled ++ more ++ [last]).map (·.data) = tag.bytes → (∀ c ∈ assembled ++ more ++ [last], c.stop = true) →
    tag.tote ≠ 0 → tag.item ≠ 0 → (∀ e ∈ s.lane.queue, e.tote ≠ tag.tote) →
    let fresh : ToteEntry :=
      { tote := tag.tote, serial := tag.serial, item := tag.item, remaining := tag.fill.toNat, uncertain := false
        touched := s.clock }
    let e : ToteEntry :=
      match s.toteEntry tag.tote with
      | none => fresh
      | some h => if h.serial = tag.serial then { h with item := tag.item, touched := s.clock } else fresh
    let read := (s.setTotes
      { s.totes with decoder := .taken false, good := min (s.totes.good + 1) 65535 }).putEntry e
    let command : Instr := .tagRead (more.map .character) last laneFull
    let possible := (s.ctl.mode = .active ∨ s.ctl.mode = .closing)
      ∧ s.lane.queue.length < s.loader.active.laneCapacity ∧ laneFull = false ∧ 0 < e.remaining
    let grants := read.share e
    let draw := (grants.map (·.granted)).sum
    let notice : Payload :=
      .draw e.tote e.serial e.item (BitVec.ofNat 8 draw) (BitVec.ofNat 8 (e.remaining - draw))
    (¬ possible ∨ draw = 0 ∨ read.offerDraw notice = none → exec command s = .next read)
      ∧ ∀ u, possible → draw ≠ 0 → read.offerDraw notice = some u →
        let queue := s.lane.queue
          ++ [{ tote := e.tote, serial := e.serial, item := e.item, drawn := draw, allocations := grants
                state := .inbound, divertTime := s.clock, stale := false }]
        let v := (u.setLane { s.lane with queue := queue, divert := true }).setBays
          (Vector.ofFn fun b : Fin 8 => (s.bay b).map (Build.pinnedWith grants b))
        let subtracted : ToteEntry := { e with remaining := e.remaining - draw, touched := s.clock }
        ∃ t, exec command s = .next t
          ∧ t = ((v.reevaluate (namedBays grants)).putEntry subtracted).changeCheck
          ∧ v.triesMade t (namedBays grants) ∧ s.port.keepsReply t.port
          ∧ t.lane = { s.lane with queue := queue, divert := true }
          ∧ (∀ b, (t.bay b).map Build.stock = ((s.bay b).map (Build.pinnedWith grants b)).map Build.stock)
          ∧ (∀ a ∈ grants, t.waitsFollow a.bay)
          ∧ t.totes = ((read.setLaneQueue queue).putEntry subtracted).totes
          ∧ u.li.withMarker t.li ∧ s.dev.withTrials s.clock t.dev ∧ s.port.onlyRaises t.port [.deviation]
          ∧ s.changedOnly t [.bays, .li, .totes, .lane, .dev, .port, .draws]

/-- The share decision (R110 to R114). The walk goes down the own and heard candidates for the item in ranking order:
each takes the lesser of its units and the units left, a heard one so holding its units back, but a ninth own one takes
none; the own takes are the grants before the cut. At most 8 grants, each of at least one unit to a distinct advertised
line that wants the item and never above its needed units; in all the walk's sum cut to the draw limit, taken from the
lowest ranked up, and never above the believed count, halved and rounded up when it is uncertain. The advertised lines
are the lines of the bays that meet R24, each once. -/
def Obligations.ShareGrantsWithinNeedLimitAndCount : Prop :=
  ∀ (s : State) (e : ToteEntry),
    let available := if e.uncertain = true then e.remaining - e.remaining / 2 else e.remaining
    let walked := walk (s.candidates e.item) available 0
    let own := (s.advertisedLines.filter fun o => o.line.activeItem == e.item).map fun o =>
      ({ key := { score := scoreOf s.clock o.build o.line, station := s.ctl.station, bay := o.bay.val, line := o.index }
         units := o.line.ordered - o.line.placed - o.line.pinned, own := some (o.bay, o.index) } : Candidate)
    let heard := (s.peers.heard.filter fun h => h.entry.item == e.item).map fun h =>
      ({ key :=
          { score := h.entry.score.toNat, station := h.peer, bay := h.entry.bay.toNat, line := h.entry.line.toNat }
         units := h.entry.units.toNat, own := none } : Candidate)
    let grants := s.share e
    (∃ (ranked : List Candidate) (takes : List Nat), ranked.Perm (own ++ heard)
        ∧ ranked.Pairwise (fun x y => ranksAbove y.key x.key = false) ∧ takes.length = ranked.length
        ∧ (∀ (k : Nat) (c : Candidate), ranked[k]? = some c →
          let ownGrants := ((ranked.zip takes).take k).filter fun x => x.1.own.isSome && decide (0 < x.2)
          takes[k]? = some (if c.own.isSome = true ∧ 8 ≤ ownGrants.length then 0
            else min c.units (available - (takes.take k).sum)))
        ∧ walked = (ranked.zip takes).filterMap fun x =>
          x.1.own.bind fun o => if x.2 = 0 then none else some { bay := o.1, line := o.2, granted := x.2 })
      ∧ grants.length ≤ 8
      ∧ (∀ a ∈ grants, 1 ≤ a.granted
        ∧ ∃ o ∈ s.advertisedLines, o.bay = a.bay ∧ o.index = a.line ∧ o.line.activeItem = e.item
          ∧ a.granted ≤ o.line.ordered - o.line.placed - o.line.pinned)
      ∧ (grants.map fun a => (a.bay, a.line)).Nodup
      ∧ (grants.map (·.granted)).sum = min s.loader.active.drawLimit (walked.map (·.granted)).sum
      ∧ (grants.map (·.granted)).sum ≤ available
      ∧ (∃ k, grants = walked.take k
        ∨ ∃ a g, walked[k]? = some a ∧ 1 ≤ g ∧ g < a.granted
          ∧ grants = walked.take k ++ [{ a with granted := g }])
      ∧ s.advertisedLines.Nodup
      ∧ ∀ o : OwnLine, o ∈ s.advertisedLines ↔
        s.bay o.bay = some o.build ∧ o.build.lines[o.index]? = some o.line ∧ s.meetsR24 o.build o.line

/-- A tote entry set or created (R100): in the place of the entry of its tote; else in a free place; else in the place
of the entry longest untouched among those whose tote is not in the lane, the lower tote ID first. -/
def Obligations.ToteTableMakesRoomByLastTouched : Prop :=
  ∀ (inLane : ToteId → Bool) (table : List ToteEntry) (e : ToteEntry),
    ((∃ x ∈ table, x.tote = e.tote) → putTote inLane table e = table.map fun x => if x.tote = e.tote then e else x)
      ∧ ((∀ x ∈ table, x.tote ≠ e.tote) → table.length < 128 → putTote inLane table e = table ++ [e])
      ∧ ((∀ x ∈ table, x.tote ≠ e.tote) → 128 ≤ table.length → (∃ x ∈ table, inLane x.tote = false) →
        ∃ v ∈ table, inLane v.tote = false
          ∧ (∀ x ∈ table, inLane x.tote = false →
            v.touched < x.touched ∨ (v.touched = x.touched ∧ v.tote.toNat ≤ x.tote.toNat))
          ∧ putTote inLane table e = (table.filter fun x => x.tote != v.tote) ++ [e])

/-! ## The bench lane's events -/

/-- ARRIVAL (R121, R122), the ends of the pulses (R119, R120) and DWELL_EXPIRY (R133): the oldest INBOUND entry becomes
AT_BENCH now with TOTE_AT_BENCH, or the arrival is unexpected; a rise after under 10 ms of low level, or in LOADING, is
none; an entry that has stood its limit is marked stale once, with LANE_STALE, and where none is due the command does
nothing (log 2). -/
def Obligations.ArrivalsPulsesAndDwellDriveTheLane : Prop :=
  ∀ s : State, s.resetLow = false →
    (∀ lowMicros, lowMicros < 10000 ∨ s.ctl.mode = .loading → exec (.arrival lowMicros) s = .next s)
      ∧ (∀ lowMicros, 10000 ≤ lowMicros → s.ctl.mode ≠ .loading →
        (∀ (older : List LaneEntry) (e : LaneEntry) (younger : List LaneEntry),
          s.lane.queue = older ++ e :: younger → (∀ x ∈ older, x.state ≠ .inbound) → e.state = .inbound →
          exec (.arrival lowMicros) s = .next
            ((s.setLane { s.lane with queue := older ++ { e with state := .atBench s.clock } :: younger }).setFlag
              .toteAtBench))
          ∧ ((∀ x ∈ s.lane.queue, x.state ≠ .inbound) →
            exec (.arrival lowMicros) s = .next
              ((s.setLane { s.lane with unexpected := min (s.lane.unexpected + 1) 65535 }).setFlag
                .unexpectedArrival)))
      ∧ exec .divertPulseEnd s = .next (s.setLane { s.lane with divert := false })
      ∧ exec .mergePulseEnd s = .next (s.setLane { s.lane with merge := false })
      ∧ ∀ tote : ToteId,
        let due (e : LaneEntry) : Bool := e.tote == tote && !e.stale
          && match e.state with
            | .inbound => false
            | .atBench arrival => decide (min (arrival + s.loader.active.dwellLimit * 10) 4294967295 ≤ s.clock)
        ((∀ e ∈ s.lane.queue, due e = false) → exec (.dwellExpiry tote) s = .next s)
          ∧ ((∃ e ∈ s.lane.queue, due e = true) →
            exec (.dwellExpiry tote) s = .next
              ((s.setLane
                { s.lane with
                  queue := s.lane.queue.map fun e => if due e = true then { e with stale := true } else e
                }).setFlag .laneStale))

/-- DIVERT_CONFIRM_EXPIRY of an INBOUND entry at or after its clock value (R9, R107, R124 to R126): units unpinned, the
count restored, the TALLY offered, DIVERT_MISSED recorded and set, the entry out of the lane, no MERGE, the accumulators
evaluated with their values kept but for the lines tried at once (R138; at the clock's largest value every line that
starts with a clear trial mark, the model's choice, log 31), one change check and the CLOSING check; where no such entry
is due, nothing (log 2), and one taken late takes the clock as its now (log 3). A lane entry whose tote has no tote
entry, which R100 rules out, is left to log 18. -/
def Obligations.MissedDivertIsRestoredAndRecorded : Prop :=
  ∀ (tote : ToteId) (s : State), s.resetLow = false →
    let due (e : LaneEntry) : Prop := e.tote = tote ∧ e.state = .inbound
      ∧ min (e.divertTime + s.loader.active.confirmLimit * 10) 4294967295 ≤ s.clock
    ((∀ e ∈ s.lane.queue, ¬ due e) → exec (.divertConfirmExpiry tote) s = .next s)
      ∧ ∀ (e : LaneEntry) (x : ToteEntry), (s.lane.queue.map (·.tote)).Nodup → e ∈ s.lane.queue → due e →
        s.toteEntry tote = some x →
        let settled (y : ToteEntry) : ToteEntry :=
          if y.serial = e.serial then { y with remaining := min 255 (y.remaining + e.drawn), touched := s.clock }
          else y
        let u := (((((s.setBays (Vector.ofFn fun b : Fin 8 => (s.bay b).map (Build.unpinned e.allocations b))).setTotes
          { s.totes with table := s.totes.table.map fun y => if y.tote = tote then settled y else y }).offerTally
            (settled x).tally).record (.divertMissed tote e.item e.drawn)).setFlag .divertMissed).setLane
              { s.lane with queue := s.laneWithout tote }
        ∃ t, exec (.divertConfirmExpiry tote) s = .next t
          ∧ t = ((u.reevaluate (namedBays e.allocations)).changeCheck).closingChecked
          ∧ u.triesMade t (namedBays e.allocations) ∧ s.port.keepsReply t.port
          ∧ (∀ b, (t.bay b).map Build.stock = ((s.bay b).map (Build.unpinned e.allocations b)).map Build.stock)
          ∧ (∀ a ∈ e.allocations, t.waitsFollow a.bay)
          ∧ t.totes = { s.totes with table := s.totes.table.map fun y => if y.tote = tote then settled y else y }
          ∧ (s.offerTally (settled x).tally).li.withMarker t.li
          ∧ (s.dev.add s.clock (.divertMissed tote e.item e.drawn)).withTrials s.clock t.dev
          ∧ EventFlag.divertMissed.isSet t.port = true ∧ EventFlag.deviation.isSet t.port = true
          ∧ EventFlag.noticeLost.isSet t.port = EventFlag.noticeLost.isSet (s.offerTally (settled x).tally).port
          ∧ s.port.onlyRaises t.port [.deviation, .divertMissed, .noticeLost, .modeChanged]
          ∧ t.lane = { s.lane with queue := s.laneWithout tote }
          ∧ t.ctl = { s.ctl with mode := s.modeAfter (s.laneWithout tote) }
          ∧ s.changedOnly t [.ctl, .bays, .li, .totes, .lane, .dev, .port, .draws]

/-! ## The expiries of bays and lines -/

/-- CHILL_WINDOW_EXPIRY (R31, R32): CHILL_LAPSE recorded, the lapse flag set, and a bay in CHILLING or READY moved to
HELD with its accumulators stopped and the change check made. DEADLINE_EXPIRY (R37): consumed, with DEADLINE_MISSED
recorded unless the bay is in READY. Neither does anything before its clock value (the model's choice, log 2), nor a
second time; one taken late takes the clock as its now (log 3). -/
def Obligations.ChillWindowAndDeadlineExpireOnce : Prop :=
  ∀ (b : BayNo) (bd : Build) (s : State), s.resetLow = false → s.bay b = some bd →
    let lapse := (s.record (.chillLapse b bd.orderRef))
    let stopped := bd.lines.map fun l => { l with wait := { stored := l.wait.value s.clock, runStart := none } }
    (bd.lapse = true ∨ bd.chillExpiry = none ∨ (∃ e, bd.chillExpiry = some e ∧ s.clock < e) →
      exec (.chillWindowExpiry b) s = .next s)
      ∧ (∀ e, bd.lapse = false → bd.chillExpiry = some e → e ≤ s.clock →
        (bd.held = true → exec (.chillWindowExpiry b) s = .next (lapse.setBay b (some { bd with lapse := true })))
          ∧ (bd.held = false → bd.work ≠ .gathering →
            exec (.chillWindowExpiry b) s = .next
              (lapse.setBay b (some { bd with held := true, lapse := true, lines := stopped })).changeCheck))
      ∧ (bd.deadlinePending = false ∨ s.clock < bd.deadline → exec (.deadlineExpiry b) s = .next s)
      ∧ (bd.deadlinePending = true → bd.deadline ≤ s.clock →
        exec (.deadlineExpiry b) s = .next
          (if bd.work = .ready ∧ bd.held = false then s.setBay b (some { bd with deadlinePending := false })
          else
            (s.setBay b (some { bd with deadlinePending := false, deadlineReported := true })).record
              (.deadlineMissed b bd.orderRef)))

/-- The substitute trial (R140 to R143): the first candidate after the active position that keeps the value floor and
the weight ceiling becomes the active item, with the wait at 0, SUBSTITUTED recorded and the change check made; with
none, the trial mark is set and SUBSTITUTE_EXHAUSTED recorded the first time. SUBSTITUTE_WAIT_EXPIRY makes it once the
wait has reached its limit, or the clock its largest value where R159 limits the expiry to that (R138, log 31), and
otherwise nothing (log 2); taken late, its now is the clock (log 3). An evaluation of the accumulators (R48) makes one
at once for every line it starts at its expiry, and no other, in an order the spec leaves open (log 10). A line is
advertised exactly when it meets the three conditions of R24, and its accumulator's running condition holds exactly when
it is advertised and its units pinned are 0 (R48). -/
def Obligations.SubstituteWaitTriesCandidatesInOrder : Prop :=
  (∀ (b : BayNo) (i : Nat) (bd : Build) (l : Line) (s : State), s.bay b = some bd → bd.lines[i]? = some l →
    let item (p : Nat) (lj : Line × Nat) : ItemCode := if lj.2 = i then l.itemAt p else lj.1.activeItem
    let value (p : Nat) : Nat := (bd.lines.zipIdx.map fun lj =>
      lj.1.placedValue + (lj.1.ordered - lj.1.placed) * unitValue s.items (item p lj)).sum
    let weight (p : Nat) : Nat := (bd.lines.zipIdx.map fun lj =>
      lj.1.placedWeight + (lj.1.ordered - lj.1.placed) * unitWeight s.items (item p lj)).sum
    let candidate (p : Nat) : Prop := l.position < p ∧ p ≤ l.substitutes.length
    let fit (p : Nat) : Prop := bd.floor ≤ value p ∧ weight p ≤ bd.ceiling
    let line (x : Line) : State := s.setBay b (some { bd with lines := bd.lines.set i x })
    (∀ p, candidate p → fit p → (∀ q, candidate q → q < p → ¬ fit q) →
      s.trial b i =
        ((line { l with
            position := p, wait := { stored := 0, runStart := l.wait.runStart.map fun _ => s.clock }
            trialMark := false }).record
          (.substituted b bd.orderRef i l.activeItem (l.substitutes.getD (p - 1) 0) (l.ordered - l.placed))).changeCheck)
      ∧ ((∀ p, candidate p → ¬ fit p) →
        s.trial b i =
          (if l.exhausted = true then line { l with exhausted := true, trialMark := true }
          else
            (line { l with exhausted := true, trialMark := true }).record (.substituteExhausted b bd.orderRef i)))
      ∧ ∀ (k : Fin 12) (r : Nat), k.val = i → s.resetLow = false →
        let limit := s.loader.active.substituteWait * 10
        (l.wait.runStart = none ∨ l.trialMark = true
            ∨ (l.wait.runStart = some r ∧ s.clock < min (r + (limit - l.wait.stored)) 4294967295) →
          exec (.substituteWaitExpiry b k) s = .next s)
          ∧ (l.wait.runStart = some r → l.trialMark = false →
            limit ≤ l.wait.stored + (s.clock - r) ∧ r ≤ s.clock
                ∨ min (r + (limit - l.wait.stored)) 4294967295 ≤ s.clock →
            exec (.substituteWaitExpiry b k) s = .next (s.trial b i)))
    ∧ (∀ (s : State) (bs : List BayNo), bs.Nodup →
      ∃ order : List (BayNo × Nat), order.Nodup ∧ (∀ b i, (b, i) ∈ order ↔ s.triesAtOnce bs b i)
        ∧ s.reevaluate bs = order.foldl (fun t x => t.trial x.1 x.2)
          ((s.evaluated bs).setDraws (if order.length ≤ 1 then s.draws else s.draws + 1)))
    ∧ ∀ (s : State) (bd : Build) (l : Line),
      (advertised s.ctl.mode s.items bd l = true ↔ s.meetsR24 bd l)
        ∧ (running s.ctl.mode s.items bd l = true ↔ s.meetsR24 bd l ∧ l.pinned = 0)

/-! ## The outgoing queue and the transmitter -/

/-- What the queue does with an offered DRAW, TALLY or DEMAND marker (R61, R62), and when a change check offers a marker
(R90, R91). -/
def Obligations.OffersJoinTheQueueAsItsRulesSay : Prop :=
  ∀ s : State,
    let isMarker (n : Notice) : Bool := n.payload.isNone
    let joined (q : List Notice) (p : Option Payload) : State :=
      s.setLi { s.li with queue := q ++ [{ payload := p, sequence := none, attempts := 0 }] }
    let dropped : State :=
      s.setLi { s.li with counters := { s.li.counters with dropped := min (s.li.counters.dropped + 1) 65535 } }
    let full := 12 ≤ s.li.queue.length
    let waits := ∃ n ∈ s.li.queue, isMarker n = true
    let bare := s.li.queue.eraseP isMarker
    (∀ p : Payload,
      (s.ctl.mode = .muted → s.offerTally p = dropped ∧ s.offerDraw p = none)
        ∧ (s.ctl.mode ≠ .muted →
          (¬ full → s.offerTally p = joined s.li.queue (some p) ∧ s.offerDraw p = some (joined s.li.queue (some p)))
            ∧ (full → waits → s.offerTally p = joined bare (some p) ∧ s.offerDraw p = some (joined bare (some p)))
            ∧ (full → ¬ waits → s.offerTally p = dropped.setFlag .noticeLost ∧ s.offerDraw p = none)))
      ∧ s.offerMarker = (if s.ctl.mode ≠ .muted ∧ ¬ full ∧ ¬ waits then joined s.li.queue none else s)
      ∧ (let fresh : List Wanted := s.advertisedLines.map fun o =>
          { bay := o.bay.val, line := o.index, item := o.line.activeItem
            units := o.line.ordered - o.line.placed - o.line.pinned }
        let differs := (∃ x ∈ s.peers.lastSent, x ∉ fresh)
          ∨ (s.peers.lastSent.length < 16
            ∧ ∃ w ∈ fresh, ∀ x ∈ s.peers.lastSent, ¬ (x.bay = w.bay ∧ x.line = w.line))
        ((s.ctl.mode = .loading ∨ s.ctl.mode = .muted ∨ ¬ differs) → s.changeCheck = s)
          ∧ (s.ctl.mode ≠ .loading → s.ctl.mode ≠ .muted → differs → s.changeCheck = s.offerMarker))

/-- ATTEMPT on an idle line (R63, R64, R87): a first attempt takes the sequence number and, for a marker, the sixteen
top-ranked advertised lines at now as its payload; a later one sends the same again with the count one higher. It does
not begin on a busy line, in LOADING or MUTED, during an attempt, a jam or a backoff, or with an empty queue. The idle
line may be the first seen since the start, and from then on one has been seen (R74; that ATTEMPT shows it is the
model's choice, log 37). -/
def Obligations.AttemptSendsTheHeadNotice : Prop :=
  ∀ s : State, s.resetLow = false →
    (∀ lineIdle, lineIdle = false ∨ s.ctl.mode = .loading → exec (.attempt lineIdle) s = .next s)
      ∧ (s.ctl.mode ≠ .loading → s.ctl.mode = .muted ∨ s.li.phase ≠ .waiting ∨ s.li.queue = [] →
        exec (.attempt true) s = .next (s.setLi { s.li with idleSeen := true }))
      ∧ ∀ (n : Notice) (rest : List Notice), s.ctl.mode ≠ .loading → s.ctl.mode ≠ .muted → s.li.phase = .waiting →
        s.li.queue = n :: rest →
        let sent (l : LineInterface) (sequence : Byte) (p : Payload) (count : Nat) : State :=
          s.setLi
            { l with
              queue := { payload := some p, sequence := some sequence, attempts := count } :: rest
              phase := .sending (frameBytes (BitVec.ofNat 8 s.ctl.station) sequence p)
              lde := true, ltxd := .cells, idleSeen := true }
        (∀ p, n.attempts = 0 → n.payload = some p →
          exec (.attempt true) s = .next (sent { s.li with seq := s.li.seq + 1 } s.li.seq p 1))
          ∧ (n.attempts = 0 → n.payload = none →
            ∃ ranked : List OwnLine, ranked.Perm s.advertisedLines
              ∧ ranked.Pairwise (fun x y => ranksAbove (y.key s.ctl.station s.clock) (x.key s.ctl.station s.clock) = false)
              ∧ exec (.attempt true) s = .next (sent { s.li with seq := s.li.seq + 1 } s.li.seq
                (.demand ((ranked.take 16).map fun o =>
                  { bay := BitVec.ofNat 4 o.bay.val, line := BitVec.ofNat 4 o.index, item := o.line.activeItem
                    units := BitVec.ofNat 8 (o.line.ordered - o.line.placed - o.line.pinned)
                    score := BitVec.ofNat 16 (scoreOf s.clock o.build o.line) })) 1))
          ∧ (∀ p sequence, 1 ≤ n.attempts → n.payload = some p → n.sequence = some sequence →
            exec (.attempt true) s = .next (sent s.li sequence p (n.attempts + 1)))

/-- NOTICE_COMPLETE (R65, R88), COLLISION, JAM_END and BACKOFF_END (R66, R67): completion counts the notice sent and
hands a DEMAND's entries to the last-sent list; a collision jams; after the jam the collision is counted and the notice
backs off some r below 2 to the power min(n, 6), or after its eighth attempt is dropped with NOTICE_LOST. Which r is
drawn is a free value (log 8). -/
def Obligations.TransmissionCompletesOrBacksOffOrDrops : Prop :=
  ∀ (n : Notice) (rest : List Notice) (s : State), s.resetLow = false → s.li.queue = n :: rest →
    let down (l : LineInterface) (phase : TxPhase) : LineInterface :=
      { l with phase := phase, lde := false, ltxd := .standingHigh }
    (∀ frame, s.li.phase = .sending frame →
      exec .noticeComplete s = .next
          ((s.setLi (down { s.li with
            queue := rest, counters := { s.li.counters with sent := min (s.li.counters.sent + 1) 65535 } }
            .waiting)).setPeers
              { s.peers with
                lastSent :=
                  match n.payload with
                  | some (.demand entries) => entries.map fun x =>
                    { bay := x.bay.toNat, line := x.line.toNat, item := x.item, units := x.units.toNat }
                  | _ => s.peers.lastSent })
        ∧ exec .collision s = .next (s.setLi { s.li with phase := .jamming }))
      ∧ (s.li.phase = .jamming →
        let counted : LineCounters := { s.li.counters with collisions := min (s.li.counters.collisions + 1) 65535 }
        (n.attempts < 8 →
          ∃ r, r < 2 ^ min n.attempts 6
            ∧ exec .jamEnd s = .next ((s.setLi (down { s.li with
              counters := counted, rng := { s.li.rng with draws := s.li.rng.draws + 1 } } (.backoff r))).setDraws
                (s.draws + 1)))
          ∧ (8 ≤ n.attempts →
            exec .jamEnd s = .next ((s.setLi (down { s.li with
              queue := rest
              counters := { counted with dropped := min (counted.dropped + 1) 65535 } } .waiting)).setFlag
                .noticeLost)))
      ∧ ∀ r, s.li.phase = .backoff r → exec .backoffEnd s = .next (s.setLi { s.li with phase := .waiting })

/-! ## Receiving -/

/-- BAD_FRAME (R68, R71, R72, R74): the first of the three checks that fails counts the frame; a CRC-bad frame that
brings its counter to the threshold with the mark clear sets LINE_DEGRADED and the mark; nothing is taken in LOADING or
while the part transmits. No frame of any kind is taken or counted until an idle line has been seen since the start; the
one that ends such activity is then the first (R74; the model's choice of the events that show it, log 37). The bits are
decoded from the cells by their middle changes, up to the first cell without one;
the cells are counted from the frame's first change (log 32). -/
def Obligations.BadFramesAreClassifiedAndCounted : Prop :=
  (∀ (c : Instr) (s : State), s.resetLow = false → bringsFrame c →
    (s.ctl.mode = .loading ∨ s.li.lde = true → exec c s = .next s)
      ∧ (s.ctl.mode ≠ .loading → s.li.lde = false → s.li.idleSeen = false →
        exec c s = .next (s.setLi { s.li with idleSeen := true })))
    ∧ ∀ (bits rest : List Bool) (s : State), s.resetLow = false → s.ctl.mode ≠ .loading → s.li.lde = false →
    s.li.idleSeen = true → endsCells rest →
    let levels := bits.flatMap (fun b => [!b, b]) ++ rest
    let bytes := bytesOfBits (bits.drop 16)
    let covered := bytes.take (bytes.length - 2)
    let check1 := bits.take 16 = bitsOfBytes [0xC3#8, 0x5A#8] ∧ 48 ≤ bits.length
    let check2 := 6 ≤ bytes.length ∧ bytes.drop (bytes.length - 2) = code16 (crc16 covered)
    let check3 := ∃ (sender kind sequence len : Byte) (payload : List Byte),
      covered = sender :: kind :: sequence :: len :: payload ∧ 1 ≤ sender.toNat ∧ sender.toNat ≤ 32
        ∧ payload.length = len.toNat
        ∧ ((kind = 1 ∧ len = 3) ∨ (kind = 3 ∧ len = 7) ∨ (kind = 4 ∧ len = 6)
          ∨ (kind = 2 ∧ ∃ (count : Byte) (entries : List Byte), payload = count :: entries ∧ count.toNat ≤ 16
            ∧ len.toNat = 1 + 6 * count.toNat))
    let c := s.li.counters
    (¬ check1 → exec (.badFrame levels) s = .next
      (s.setLi { s.li with counters := { c with fragments := min (c.fragments + 1) 65535 } }))
      ∧ (check1 → ¬ check2 →
        let counted : LineInterface := { s.li with counters := { c with crcBad := min (c.crcBad + 1) 65535 } }
        exec (.badFrame levels) s = .next
          (if s.loader.active.errorThreshold ≤ min (c.crcBad + 1) 65535 ∧ s.li.degraded = false then
            (s.setLi { counted with degraded := true }).setFlag .lineDegraded
          else s.setLi counted))
      ∧ (check1 → check2 → ¬ check3 → exec (.badFrame levels) s = .next
        (s.setLi { s.li with counters := { c with malformed := min (c.malformed + 1) 65535 } }))

/-- The Peer Tracker's update at every good notice (R77, R78, R105), once the notice is counted (R68): the sender is
PRESENT with the notice's sequence and time, and a number other than the expected one from a peer already PRESENT, a
JOIN apart, counts a gap at the peer and on the line and marks every tote entry uncertain. -/
def Obligations.GoodNoticeUpdatesTheRoster : Prop :=
  ∀ (s : State) (p : Nat) (isJoin : Bool) (sequence : Byte), 1 ≤ p → p ≤ 32 →
    let r := s.peer p
    let gap := r.state = .present ∧ isJoin = false ∧ ∀ last, r.lastSequence = some last → last + 1 ≠ sequence
    let t := s.rosterUpdate p isJoin sequence
    t.peer p =
        { state := .present, lastSequence := some sequence, lastHeard := some s.clock
          heard := min (r.heard + 1) 65535, gaps := if gap then min (r.gaps + 1) 65535 else r.gaps }
      ∧ (∀ q, 1 ≤ q → q ≤ 32 → q ≠ p → t.peer q = s.peer q)
      ∧ t.peers = { s.peers with roster := t.peers.roster }
      ∧ t.li.counters = (if gap then { s.li.counters with gaps := min (s.li.counters.gaps + 1) 65535 }
        else s.li.counters)
      ∧ t.li = { s.li with counters := t.li.counters }
      ∧ t.totes = (if gap then { s.totes with table := s.totes.table.map fun e => { e with uncertain := true } }
        else s.totes)
      ∧ s.changedOnly t [.peers, .li, .totes]

/-- JOIN_NOTICE (R80) and DEMAND_NOTICE (R82, R84) from a peer, once an idle line has been seen (R74; before that no
frame is taken, as BadFramesAreClassifiedAndCounted says): after the update of R77, the peer's heard entries are
removed; a JOIN then offers a marker, and a DEMAND's entries, but for the skipped ones, are inserted one at a time,
each in a free place or in that of the lowest-ranked entry of all if it ranks above it. That a repeated bay and line is
skipped also where the first was discarded is read from R82 (log 16). -/
def Obligations.JoinAndDemandReplaceWhatWasHeard : Prop :=
  (∀ (sender sequence : Byte) (s : State), s.resetLow = false → s.ctl.mode ≠ .loading → s.li.lde = false →
    s.li.idleSeen = true →
    1 ≤ sender.toNat → sender.toNat ≤ 32 → sender.toNat ≠ s.ctl.station →
    let counted := s.setLi { s.li with counters := { s.li.counters with good := min (s.li.counters.good + 1) 65535 } }
    let cleared (isJoin : Bool) : State :=
      let u := counted.rosterUpdate sender.toNat isJoin sequence
      u.setPeers { u.peers with heard := u.peers.heard.filter fun h => h.peer != sender.toNat }
    (∀ capacity bays revision : Byte,
      exec (.joinNotice sender sequence capacity bays revision) s = .next (cleared true).offerMarker)
      ∧ ∀ entries : List DemandEntry, entries.length ≤ 16 →
        exec (.demandNotice sender sequence entries) s = .next
          ((entriesTaken entries).foldl
            (fun u e => u.insertHeard { peer := sender.toNat, entry := e, timeHeard := s.clock }) (cleared false)))
    ∧ ∀ (s : State) (h : HeardEntry),
      (s.peers.heard.length < 256 →
        s.insertHeard h = s.setPeers { s.peers with heard := s.peers.heard ++ [h] })
        ∧ (256 ≤ s.peers.heard.length →
          ∃ m ∈ s.peers.heard, (∀ x ∈ s.peers.heard, ranksAbove m.key x.key = false)
            ∧ s.insertHeard h =
              (if ranksAbove h.key m.key = true then
                s.setPeers { s.peers with heard := s.peers.heard.erase m ++ [h] }
              else s.setPeers { s.peers with overflow := min (s.peers.overflow + 1) 65535 }))

/-- DRAW_NOTICE (R103) and TALLY_NOTICE (R104) from a peer, once an idle line has been seen (R74; before that no frame
is taken, as BadFramesAreClassifiedAndCounted says), after the update of R77: by the comparison of fill serials
(R99) a draw is subtracted from the same fill and a tally replaces it, a newer fill or a tote not held is taken from the
notice, an older fill is ignored, and so is a tote ID or item code of 0x0000. -/
def Obligations.DrawAndTallySetTheToteCount : Prop :=
  ∀ (sender sequence : Byte) (tote : ToteId) (serial : Serial) (item : ItemCode) (units remaining : Byte) (s : State),
    s.resetLow = false → s.ctl.mode ≠ .loading → s.li.lde = false → s.li.idleSeen = true →
    1 ≤ sender.toNat → sender.toNat ≤ 32 →
    sender.toNat ≠ s.ctl.station →
    let counted := s.setLi { s.li with counters := { s.li.counters with good := min (s.li.counters.good + 1) 65535 } }
    let u := counted.rosterUpdate sender.toNat false sequence
    let noticed : ToteEntry :=
      { tote := tote, serial := serial, item := item, remaining := remaining.toNat, uncertain := false
        touched := s.clock }
    let d (e : ToteEntry) : Nat := (serial.toNat + 256 - e.serial.toNat) % 256
    let draw := exec (.drawNotice sender sequence tote serial item units remaining) s
    let tally := exec (.tallyNotice sender sequence tote serial item remaining) s
    (tote = 0 ∨ item = 0 → draw = .next u ∧ tally = .next u)
      ∧ (tote ≠ 0 → item ≠ 0 →
        (u.toteEntry tote = none → draw = .next (u.putEntry noticed) ∧ tally = .next (u.putEntry noticed))
          ∧ ∀ e, u.toteEntry tote = some e →
            (d e = 0 →
              draw = .next (u.putEntry { e with remaining := e.remaining - units.toNat, touched := s.clock })
                ∧ tally = .next (u.putEntry noticed))
              ∧ (1 ≤ d e → d e ≤ 127 → draw = .next (u.putEntry noticed) ∧ tally = .next (u.putEntry noticed))
              ∧ (128 ≤ d e → draw = .next u ∧ tally = .next u))

/-- A good notice of any kind that bears the own number (R68, R70, R165, R168), once an idle line has been seen (R74;
before that no frame is taken, as BadFramesAreClassifiedAndCounted says): counted and not delivered, the station
MUTED with its accumulators stopped and the settle expiry discarded, the queue emptied and counted dropped, NOTICE_LOST
if it held a notice, MODE_CHANGED if the mode changed, and STATION_CLASH. -/
def Obligations.AddressClashMutesTheStation : Prop :=
  ∀ (sender sequence : Byte) (c : Instr) (s : State), s.resetLow = false → s.ctl.mode ≠ .loading → s.li.lde = false →
    s.li.idleSeen = true →
    1 ≤ sender.toNat → sender.toNat ≤ 32 → sender.toNat = s.ctl.station → c.wellFormed = true →
    ((∃ capacity bays revision, c = .joinNotice sender sequence capacity bays revision)
      ∨ (∃ entries, c = .demandNotice sender sequence entries)
      ∨ (∃ tote serial item units remaining, c = .drawNotice sender sequence tote serial item units remaining)
      ∨ ∃ tote serial item remaining, c = .tallyNotice sender sequence tote serial item remaining) →
    ∃ t, exec c s = .next t
      ∧ t.ctl = { s.ctl with
          mode := .muted, settleExpiry := if s.ctl.mode = .muted then s.ctl.settleExpiry else none }
      ∧ t.li =
        { s.li with
          queue := [], phase := .waiting, lde := false, ltxd := .standingHigh
          counters :=
            { s.li.counters with
              good := min (s.li.counters.good + 1) 65535
              dropped :=
                if s.li.queue = [] then s.li.counters.dropped
                else min (s.li.counters.dropped + s.li.queue.length) 65535 } }
      ∧ EventFlag.stationClash.isSet t.port = true
      ∧ (s.li.queue ≠ [] → EventFlag.noticeLost.isSet t.port = true)
      ∧ (s.ctl.mode ≠ .muted → EventFlag.modeChanged.isSet t.port = true)
      ∧ s.port.keepsReply t.port
      ∧ s.port.onlyRaises t.port ([.stationClash] ++ (if s.li.queue = [] then [] else [.noticeLost])
          ++ (if s.ctl.mode = .muted then [] else [.modeChanged]))
      ∧ (∀ b, t.bay b = if s.ctl.mode = .muted then s.bay b
          else (s.bay b).map fun bd => { bd with lines := bd.lines.map fun l =>
            { l with wait := { stored := l.wait.value s.clock, runStart := none } } })
      ∧ s.changedOnly t [.ctl, .bays, .li, .port]

/-- SILENCE_EXPIRY (R79) of a PRESENT peer at or after its last heard time + the silence limit: SILENT, its heard
entries removed, the rest of its record kept. REFRESH_EXPIRY (R89): the next expiry one interval after this one, none
after the clock's largest value, and a marker offered unless MUTED. Before their clock values, nothing (log 2); a
refresh taken late counts the next from its own clock value (log 23). -/
def Obligations.SilenceAndRefreshExpire : Prop :=
  ∀ s : State, s.resetLow = false →
    (∀ (p heard : Nat), 1 ≤ p → p ≤ 32 → (s.peer p).state = .present → (s.peer p).lastHeard = some heard →
      let limit := s.loader.active.silenceMultiplier * s.loader.active.refresh * 10
      (s.clock < min (heard + limit) 4294967295 → exec (.silenceExpiry p) s = .next s)
        ∧ (min (heard + limit) 4294967295 ≤ s.clock →
          ∃ t, exec (.silenceExpiry p) s = .next t
            ∧ t.peer p = { s.peer p with state := .silent }
            ∧ (∀ q, 1 ≤ q → q ≤ 32 → q ≠ p → t.peer q = s.peer q)
            ∧ t.peers = { s.peers with
                roster := t.peers.roster, heard := s.peers.heard.filter fun h => h.peer != p }
            ∧ s.changedOnly t [.peers]))
      ∧ (∀ p, 1 ≤ p → p ≤ 32 → (s.peer p).state ≠ .present → exec (.silenceExpiry p) s = .next s)
      ∧ (∀ e, s.peers.refreshExpiry = some e →
        (s.clock < e → exec .refreshExpiry s = .next s)
          ∧ (e ≤ s.clock →
            exec .refreshExpiry s = .next
              (s.setPeers
                { s.peers with
                  refreshExpiry :=
                    if e = 4294967295 then none
                    else some (min (e + s.loader.active.refresh * 10) 4294967295) }).offerMarker))
      ∧ (s.peers.refreshExpiry = none → exec .refreshExpiry s = .next s)

/-! ## Scores and ranking -/

/-- The urgency score of an own line (R42 to R46): the sum of its slack, completion and wait terms, each rounded down;
from 29 to 65415 where the deadline is at most 655350 tenths off and some unit of the build is still to be placed, both
ends reached. -/
def Obligations.UrgencyScoreStaysInItsRange : Prop :=
  (∀ (now : Nat) (bd : Build) (l : Line),
    let seconds := (bd.deadline - now) / 10
    let units := (bd.lines.map fun x => x.ordered - x.placed).sum
    let score := scoreOf now bd l
    score = 1966080 / (seconds + 60) + 16384 * (bd.total - units) / bd.total
        + min (l.wait.value now / 10) 255 * 64
      ∧ (bd.deadline ≤ now + 655350 → 1 ≤ units → units ≤ bd.total → bd.total ≤ 288 → 29 ≤ score ∧ score ≤ 65415))
    ∧ urgency 655350 0 6 6 0 = 29 ∧ urgency 0 0 288 1 3000 = 65415

/-- The ranking key (R51): of two entries with different keys exactly one ranks above the other, the relation is
transitive, and entries with different keys have one order whatever order they come in. -/
def Obligations.RankingIsOneOrder : Prop :=
  (∀ x : RankKey, ranksAbove x x = false)
    ∧ (∀ x y : RankKey, x ≠ y → (ranksAbove x y = true ↔ ranksAbove y x = false))
    ∧ (∀ x y z : RankKey, ranksAbove x y = true → ranksAbove y z = true → ranksAbove x z = true)
    ∧ (∀ x y : RankKey, ranksAbove x y = true ↔
        y.score < x.score ∨ (x.score = y.score ∧ (x.station < y.station ∨ (x.station = y.station
          ∧ (x.bay < y.bay ∨ (x.bay = y.bay ∧ x.line < y.line))))))
    ∧ ∀ xs ys : List HeardEntry, xs.Perm ys → (xs.map HeardEntry.key).Nodup →
        rankSort HeardEntry.key xs = rankSort HeardEntry.key ys
          ∧ (rankSort HeardEntry.key xs).Perm xs
          ∧ (rankSort HeardEntry.key xs).Pairwise fun x y => ranksAbove x.key y.key = true

/-! ## Layouts read back as they are written -/

/-- Every notice a good sender can send is read back by the receiver as it was sent, whatever bits short of a whole byte
follow it (R55, R57 to R59, R68, R184); from its bits and, by the middle changes of its cells, from the levels on the
line (log 32). -/
def Obligations.NoticeFramesReadBackAsSent : Prop :=
  ∀ (sender sequence : Byte) (p : Payload) (tail : List Bool), goodSender sender = true → p.wellFormed = true →
    tail.length < 8 →
      classify (frameBits sender sequence p ++ tail) = .good sender sequence p
        ∧ ∀ rest : List Bool, endsCells rest →
          classify (decodeCells ((frameBits sender sequence p ++ tail).flatMap (fun b => [!b, b]) ++ rest))
            = .good sender sequence p

/-- The blocks of Open Build and Load Items, the settings record and the tag read give back every field they were
written with (R96, R163, R184 to R186). -/
def Obligations.BlocksAndRecordsReadBackAsWritten : Prop :=
  (∀ p : BuildParams, p.fits → openBuildLength p.bytes = true ∧ parseBuild p.bytes = p)
    ∧ (∀ rs : List RawItem, (∀ r ∈ rs, r.fits) → parseItems ((loadItemsBlock rs).drop 1) = rs)
    ∧ (∀ g : Settings, g.inRange = true →
        (settingsRecord g).length = 16 ∧ formSettings (settingsRecord g) = (g, .loaded))
    ∧ ∀ t : Tag, t.tote ≠ 0 → t.item ≠ 0 → parseTag t.bytes = some t

/-! ## What every step keeps -/

/-- Every step keeps ATTN at what R181 says of the flags and enables, READY at what R173 says of the reply buffer, and
the deviation table bounded and numbered as R153 and R154 say. -/
def Obligations.StepKeepsAttentionReadyAndDeviations : Prop :=
  ∀ s t : State, step s = .next t →
    (s.attnFollows → t.attnFollows) ∧ (s.readyFollows → t.readyFollows)
      ∧ (s.deviationsBounded → t.deviationsBounded) ∧ (s.deviationsNumbered → t.deviationsNumbered)

/-- Every step keeps the outgoing queue and the transmitter sound (R55, R60 to R67), with no attempt made before an idle
line has been seen (R74). -/
def Obligations.StepKeepsTheLineInterfaceSound : Prop :=
  ∀ s t : State, s.lineSound → step s = .next t → t.lineSound

/-- Every step keeps the item table, the line pool, the tote table and the heard-demand table within their sizes, keys
and ranges (R1, R6, R81, R98), and the reader port decoder stopped exactly in LOADING, with fewer than eight characters
in assembly (R95). -/
def Obligations.StepKeepsTheTablesSound : Prop :=
  ∀ s t : State, step s = .next t →
    (s.itemsSound → t.itemsSound) ∧ (s.poolSound → t.poolSound) ∧ (s.totesSound → t.totesSound)
      ∧ (s.heardSound → t.heardSound) ∧ (s.readerSound → t.readerSound)

/-- Every step keeps the active settings in their ranges, and none but one that starts the part or ends its settings
load changes them, the load outcome or the station number (R160, R163). -/
def Obligations.SettingsStayInRangeAndFixed : Prop :=
  (∀ s t : State, s.settingsInRange → step s = .next t → t.settingsInRange)
    ∧ ∀ (c : Instr) (s t : State), exec c s = .next t → (∀ straps, c ≠ .hardReset straps) →
      (∀ straps tx, c ≠ .restart straps tx) →
      t.ctl.station = s.ctl.station
        ∧ ((∀ record, c ≠ .settingsLoad record) → c ≠ .settingsLoadTimeout →
          t.loader.active = s.loader.active ∧ t.loader.outcome = s.loader.outcome)

/-- Every step keeps each accumulator running exactly while its running condition holds (R48), with no bay in use in
LOADING (R22) and the items behind it fixed (R2). -/
def Obligations.StepKeepsAccumulatorsOnTheirCondition : Prop :=
  ∀ s t : State, s.accumulatorsSound → step s = .next t → t.accumulatorsSound

/-- Every step keeps every build within its value floor and weight ceiling (R18), with what that rests on: units placed
and pinned within units ordered (R8), pins equal to what the lane was granted (R9), lines of a READY bay complete, the
named items in the table (R2), and the lane within its capacity and in order (R118). -/
def Obligations.StepKeepsTheBuildsPromise : Prop :=
  ∀ s t : State, s.storeSound → step s = .next t → t.storeSound

/-- Every one of those invariants holds after reset, whatever the straps. -/
def Obligations.ResetMeetsEveryInvariant : Prop :=
  ∀ (straps : BitVec 5) (s t : State), t = State.reset ∨ exec (.hardReset straps) s = .next t →
    t.attnFollows ∧ t.readyFollows ∧ t.deviationsBounded ∧ t.deviationsNumbered ∧ t.lineSound ∧ t.itemsSound
      ∧ t.poolSound ∧ t.totesSound ∧ t.heardSound ∧ t.readerSound ∧ t.settingsInRange ∧ t.accumulatorsSound ∧ t.storeSound

/-! ## Rules over all commands -/

/-- A MUTED station leaves MUTED only at a hard reset or a Restart, and until then it begins no transmission and queues
no notice (R61 to R63, R70, R168). -/
def Obligations.MutedEndsOnlyAtAStart : Prop :=
  ∀ (c : Instr) (s t : State), s.ctl.mode = .muted → exec c s = .next t → (∀ straps, c ≠ .hardReset straps) →
    (∀ straps tx, c ≠ .restart straps tx) →
    t.ctl.mode = .muted ∧ t.li.queue.length ≤ s.li.queue.length ∧ (s.li.lde = false → t.li.lde = false)
      ∧ t.lane.queue.length ≤ s.lane.queue.length

/-- The record of an item in use does not change while it is in use: no command but a hard reset replaces or removes it
(R2, R3, R5). -/
def Obligations.ItemsInUseNeverChange : Prop :=
  ∀ (c : Instr) (s t : State) (code : ItemCode) (r : ItemRecord), s.itemInUse code = true →
    findItem s.items code = some r → exec c s = .next t → (∀ straps, c ≠ .hardReset straps) →
    findItem t.items code = some r
end

