-- ==== Sys2Proof/Laws/State.lean ====
section
/-! SUPPORT. One lemma per field per update of State, so that no later proof unfolds a record update. -/

namespace Sys2Proof.Machine

@[simp] theorem State.setPending_pending (s : State) (v : List Instr) : (s.setPending v).pending = v := rfl
@[simp] theorem State.setPending_resetLow (s : State) (v : List Instr) : (s.setPending v).resetLow = s.resetLow := rfl
@[simp] theorem State.setPending_clock (s : State) (v : List Instr) : (s.setPending v).clock = s.clock := rfl
@[simp] theorem State.setPending_ctl (s : State) (v : List Instr) : (s.setPending v).ctl = s.ctl := rfl
@[simp] theorem State.setPending_loader (s : State) (v : List Instr) : (s.setPending v).loader = s.loader := rfl
@[simp] theorem State.setPending_items (s : State) (v : List Instr) : (s.setPending v).items = s.items := rfl
@[simp] theorem State.setPending_bays (s : State) (v : List Instr) : (s.setPending v).bays = s.bays := rfl
@[simp] theorem State.setPending_li (s : State) (v : List Instr) : (s.setPending v).li = s.li := rfl
@[simp] theorem State.setPending_peers (s : State) (v : List Instr) : (s.setPending v).peers = s.peers := rfl
@[simp] theorem State.setPending_totes (s : State) (v : List Instr) : (s.setPending v).totes = s.totes := rfl
@[simp] theorem State.setPending_lane (s : State) (v : List Instr) : (s.setPending v).lane = s.lane := rfl
@[simp] theorem State.setPending_dev (s : State) (v : List Instr) : (s.setPending v).dev = s.dev := rfl
@[simp] theorem State.setPending_port (s : State) (v : List Instr) : (s.setPending v).port = s.port := rfl
@[simp] theorem State.setPending_draws (s : State) (v : List Instr) : (s.setPending v).draws = s.draws := rfl

@[simp] theorem State.setResetLow_pending (s : State) (v : Bool) : (s.setResetLow v).pending = s.pending := rfl
@[simp] theorem State.setResetLow_resetLow (s : State) (v : Bool) : (s.setResetLow v).resetLow = v := rfl
@[simp] theorem State.setResetLow_clock (s : State) (v : Bool) : (s.setResetLow v).clock = s.clock := rfl
@[simp] theorem State.setResetLow_ctl (s : State) (v : Bool) : (s.setResetLow v).ctl = s.ctl := rfl
@[simp] theorem State.setResetLow_loader (s : State) (v : Bool) : (s.setResetLow v).loader = s.loader := rfl
@[simp] theorem State.setResetLow_items (s : State) (v : Bool) : (s.setResetLow v).items = s.items := rfl
@[simp] theorem State.setResetLow_bays (s : State) (v : Bool) : (s.setResetLow v).bays = s.bays := rfl
@[simp] theorem State.setResetLow_li (s : State) (v : Bool) : (s.setResetLow v).li = s.li := rfl
@[simp] theorem State.setResetLow_peers (s : State) (v : Bool) : (s.setResetLow v).peers = s.peers := rfl
@[simp] theorem State.setResetLow_totes (s : State) (v : Bool) : (s.setResetLow v).totes = s.totes := rfl
@[simp] theorem State.setResetLow_lane (s : State) (v : Bool) : (s.setResetLow v).lane = s.lane := rfl
@[simp] theorem State.setResetLow_dev (s : State) (v : Bool) : (s.setResetLow v).dev = s.dev := rfl
@[simp] theorem State.setResetLow_port (s : State) (v : Bool) : (s.setResetLow v).port = s.port := rfl
@[simp] theorem State.setResetLow_draws (s : State) (v : Bool) : (s.setResetLow v).draws = s.draws := rfl

@[simp] theorem State.setClock_pending (s : State) (v : Nat) : (s.setClock v).pending = s.pending := rfl
@[simp] theorem State.setClock_resetLow (s : State) (v : Nat) : (s.setClock v).resetLow = s.resetLow := rfl
@[simp] theorem State.setClock_clock (s : State) (v : Nat) : (s.setClock v).clock = v := rfl
@[simp] theorem State.setClock_ctl (s : State) (v : Nat) : (s.setClock v).ctl = s.ctl := rfl
@[simp] theorem State.setClock_loader (s : State) (v : Nat) : (s.setClock v).loader = s.loader := rfl
@[simp] theorem State.setClock_items (s : State) (v : Nat) : (s.setClock v).items = s.items := rfl
@[simp] theorem State.setClock_bays (s : State) (v : Nat) : (s.setClock v).bays = s.bays := rfl
@[simp] theorem State.setClock_li (s : State) (v : Nat) : (s.setClock v).li = s.li := rfl
@[simp] theorem State.setClock_peers (s : State) (v : Nat) : (s.setClock v).peers = s.peers := rfl
@[simp] theorem State.setClock_totes (s : State) (v : Nat) : (s.setClock v).totes = s.totes := rfl
@[simp] theorem State.setClock_lane (s : State) (v : Nat) : (s.setClock v).lane = s.lane := rfl
@[simp] theorem State.setClock_dev (s : State) (v : Nat) : (s.setClock v).dev = s.dev := rfl
@[simp] theorem State.setClock_port (s : State) (v : Nat) : (s.setClock v).port = s.port := rfl
@[simp] theorem State.setClock_draws (s : State) (v : Nat) : (s.setClock v).draws = s.draws := rfl

@[simp] theorem State.setCtl_pending (s : State) (v : ModeControl) : (s.setCtl v).pending = s.pending := rfl
@[simp] theorem State.setCtl_resetLow (s : State) (v : ModeControl) : (s.setCtl v).resetLow = s.resetLow := rfl
@[simp] theorem State.setCtl_clock (s : State) (v : ModeControl) : (s.setCtl v).clock = s.clock := rfl
@[simp] theorem State.setCtl_ctl (s : State) (v : ModeControl) : (s.setCtl v).ctl = v := rfl
@[simp] theorem State.setCtl_loader (s : State) (v : ModeControl) : (s.setCtl v).loader = s.loader := rfl
@[simp] theorem State.setCtl_items (s : State) (v : ModeControl) : (s.setCtl v).items = s.items := rfl
@[simp] theorem State.setCtl_bays (s : State) (v : ModeControl) : (s.setCtl v).bays = s.bays := rfl
@[simp] theorem State.setCtl_li (s : State) (v : ModeControl) : (s.setCtl v).li = s.li := rfl
@[simp] theorem State.setCtl_peers (s : State) (v : ModeControl) : (s.setCtl v).peers = s.peers := rfl
@[simp] theorem State.setCtl_totes (s : State) (v : ModeControl) : (s.setCtl v).totes = s.totes := rfl
@[simp] theorem State.setCtl_lane (s : State) (v : ModeControl) : (s.setCtl v).lane = s.lane := rfl
@[simp] theorem State.setCtl_dev (s : State) (v : ModeControl) : (s.setCtl v).dev = s.dev := rfl
@[simp] theorem State.setCtl_port (s : State) (v : ModeControl) : (s.setCtl v).port = s.port := rfl
@[simp] theorem State.setCtl_draws (s : State) (v : ModeControl) : (s.setCtl v).draws = s.draws := rfl

@[simp] theorem State.setLoader_pending (s : State) (v : Loader) : (s.setLoader v).pending = s.pending := rfl
@[simp] theorem State.setLoader_resetLow (s : State) (v : Loader) : (s.setLoader v).resetLow = s.resetLow := rfl
@[simp] theorem State.setLoader_clock (s : State) (v : Loader) : (s.setLoader v).clock = s.clock := rfl
@[simp] theorem State.setLoader_ctl (s : State) (v : Loader) : (s.setLoader v).ctl = s.ctl := rfl
@[simp] theorem State.setLoader_loader (s : State) (v : Loader) : (s.setLoader v).loader = v := rfl
@[simp] theorem State.setLoader_items (s : State) (v : Loader) : (s.setLoader v).items = s.items := rfl
@[simp] theorem State.setLoader_bays (s : State) (v : Loader) : (s.setLoader v).bays = s.bays := rfl
@[simp] theorem State.setLoader_li (s : State) (v : Loader) : (s.setLoader v).li = s.li := rfl
@[simp] theorem State.setLoader_peers (s : State) (v : Loader) : (s.setLoader v).peers = s.peers := rfl
@[simp] theorem State.setLoader_totes (s : State) (v : Loader) : (s.setLoader v).totes = s.totes := rfl
@[simp] theorem State.setLoader_lane (s : State) (v : Loader) : (s.setLoader v).lane = s.lane := rfl
@[simp] theorem State.setLoader_dev (s : State) (v : Loader) : (s.setLoader v).dev = s.dev := rfl
@[simp] theorem State.setLoader_port (s : State) (v : Loader) : (s.setLoader v).port = s.port := rfl
@[simp] theorem State.setLoader_draws (s : State) (v : Loader) : (s.setLoader v).draws = s.draws := rfl

@[simp] theorem State.setItems_pending (s : State) (v : List ItemRecord) : (s.setItems v).pending = s.pending := rfl
@[simp] theorem State.setItems_resetLow (s : State) (v : List ItemRecord) : (s.setItems v).resetLow = s.resetLow := rfl
@[simp] theorem State.setItems_clock (s : State) (v : List ItemRecord) : (s.setItems v).clock = s.clock := rfl
@[simp] theorem State.setItems_ctl (s : State) (v : List ItemRecord) : (s.setItems v).ctl = s.ctl := rfl
@[simp] theorem State.setItems_loader (s : State) (v : List ItemRecord) : (s.setItems v).loader = s.loader := rfl
@[simp] theorem State.setItems_items (s : State) (v : List ItemRecord) : (s.setItems v).items = v := rfl
@[simp] theorem State.setItems_bays (s : State) (v : List ItemRecord) : (s.setItems v).bays = s.bays := rfl
@[simp] theorem State.setItems_li (s : State) (v : List ItemRecord) : (s.setItems v).li = s.li := rfl
@[simp] theorem State.setItems_peers (s : State) (v : List ItemRecord) : (s.setItems v).peers = s.peers := rfl
@[simp] theorem State.setItems_totes (s : State) (v : List ItemRecord) : (s.setItems v).totes = s.totes := rfl
@[simp] theorem State.setItems_lane (s : State) (v : List ItemRecord) : (s.setItems v).lane = s.lane := rfl
@[simp] theorem State.setItems_dev (s : State) (v : List ItemRecord) : (s.setItems v).dev = s.dev := rfl
@[simp] theorem State.setItems_port (s : State) (v : List ItemRecord) : (s.setItems v).port = s.port := rfl
@[simp] theorem State.setItems_draws (s : State) (v : List ItemRecord) : (s.setItems v).draws = s.draws := rfl

@[simp] theorem State.setBays_pending (s : State) (v : Vector (Option Build) 8) : (s.setBays v).pending = s.pending := rfl
@[simp] theorem State.setBays_resetLow (s : State) (v : Vector (Option Build) 8) : (s.setBays v).resetLow = s.resetLow := rfl
@[simp] theorem State.setBays_clock (s : State) (v : Vector (Option Build) 8) : (s.setBays v).clock = s.clock := rfl
@[simp] theorem State.setBays_ctl (s : State) (v : Vector (Option Build) 8) : (s.setBays v).ctl = s.ctl := rfl
@[simp] theorem State.setBays_loader (s : State) (v : Vector (Option Build) 8) : (s.setBays v).loader = s.loader := rfl
@[simp] theorem State.setBays_items (s : State) (v : Vector (Option Build) 8) : (s.setBays v).items = s.items := rfl
@[simp] theorem State.setBays_bays (s : State) (v : Vector (Option Build) 8) : (s.setBays v).bays = v := rfl
@[simp] theorem State.setBays_li (s : State) (v : Vector (Option Build) 8) : (s.setBays v).li = s.li := rfl
@[simp] theorem State.setBays_peers (s : State) (v : Vector (Option Build) 8) : (s.setBays v).peers = s.peers := rfl
@[simp] theorem State.setBays_totes (s : State) (v : Vector (Option Build) 8) : (s.setBays v).totes = s.totes := rfl
@[simp] theorem State.setBays_lane (s : State) (v : Vector (Option Build) 8) : (s.setBays v).lane = s.lane := rfl
@[simp] theorem State.setBays_dev (s : State) (v : Vector (Option Build) 8) : (s.setBays v).dev = s.dev := rfl
@[simp] theorem State.setBays_port (s : State) (v : Vector (Option Build) 8) : (s.setBays v).port = s.port := rfl
@[simp] theorem State.setBays_draws (s : State) (v : Vector (Option Build) 8) : (s.setBays v).draws = s.draws := rfl

@[simp] theorem State.setLi_pending (s : State) (v : LineInterface) : (s.setLi v).pending = s.pending := rfl
@[simp] theorem State.setLi_resetLow (s : State) (v : LineInterface) : (s.setLi v).resetLow = s.resetLow := rfl
@[simp] theorem State.setLi_clock (s : State) (v : LineInterface) : (s.setLi v).clock = s.clock := rfl
@[simp] theorem State.setLi_ctl (s : State) (v : LineInterface) : (s.setLi v).ctl = s.ctl := rfl
@[simp] theorem State.setLi_loader (s : State) (v : LineInterface) : (s.setLi v).loader = s.loader := rfl
@[simp] theorem State.setLi_items (s : State) (v : LineInterface) : (s.setLi v).items = s.items := rfl
@[simp] theorem State.setLi_bays (s : State) (v : LineInterface) : (s.setLi v).bays = s.bays := rfl
@[simp] theorem State.setLi_li (s : State) (v : LineInterface) : (s.setLi v).li = v := rfl
@[simp] theorem State.setLi_peers (s : State) (v : LineInterface) : (s.setLi v).peers = s.peers := rfl
@[simp] theorem State.setLi_totes (s : State) (v : LineInterface) : (s.setLi v).totes = s.totes := rfl
@[simp] theorem State.setLi_lane (s : State) (v : LineInterface) : (s.setLi v).lane = s.lane := rfl
@[simp] theorem State.setLi_dev (s : State) (v : LineInterface) : (s.setLi v).dev = s.dev := rfl
@[simp] theorem State.setLi_port (s : State) (v : LineInterface) : (s.setLi v).port = s.port := rfl
@[simp] theorem State.setLi_draws (s : State) (v : LineInterface) : (s.setLi v).draws = s.draws := rfl

@[simp] theorem State.setPeers_pending (s : State) (v : PeerTracker) : (s.setPeers v).pending = s.pending := rfl
@[simp] theorem State.setPeers_resetLow (s : State) (v : PeerTracker) : (s.setPeers v).resetLow = s.resetLow := rfl
@[simp] theorem State.setPeers_clock (s : State) (v : PeerTracker) : (s.setPeers v).clock = s.clock := rfl
@[simp] theorem State.setPeers_ctl (s : State) (v : PeerTracker) : (s.setPeers v).ctl = s.ctl := rfl
@[simp] theorem State.setPeers_loader (s : State) (v : PeerTracker) : (s.setPeers v).loader = s.loader := rfl
@[simp] theorem State.setPeers_items (s : State) (v : PeerTracker) : (s.setPeers v).items = s.items := rfl
@[simp] theorem State.setPeers_bays (s : State) (v : PeerTracker) : (s.setPeers v).bays = s.bays := rfl
@[simp] theorem State.setPeers_li (s : State) (v : PeerTracker) : (s.setPeers v).li = s.li := rfl
@[simp] theorem State.setPeers_peers (s : State) (v : PeerTracker) : (s.setPeers v).peers = v := rfl
@[simp] theorem State.setPeers_totes (s : State) (v : PeerTracker) : (s.setPeers v).totes = s.totes := rfl
@[simp] theorem State.setPeers_lane (s : State) (v : PeerTracker) : (s.setPeers v).lane = s.lane := rfl
@[simp] theorem State.setPeers_dev (s : State) (v : PeerTracker) : (s.setPeers v).dev = s.dev := rfl
@[simp] theorem State.setPeers_port (s : State) (v : PeerTracker) : (s.setPeers v).port = s.port := rfl
@[simp] theorem State.setPeers_draws (s : State) (v : PeerTracker) : (s.setPeers v).draws = s.draws := rfl

@[simp] theorem State.setTotes_pending (s : State) (v : ToteTracker) : (s.setTotes v).pending = s.pending := rfl
@[simp] theorem State.setTotes_resetLow (s : State) (v : ToteTracker) : (s.setTotes v).resetLow = s.resetLow := rfl
@[simp] theorem State.setTotes_clock (s : State) (v : ToteTracker) : (s.setTotes v).clock = s.clock := rfl
@[simp] theorem State.setTotes_ctl (s : State) (v : ToteTracker) : (s.setTotes v).ctl = s.ctl := rfl
@[simp] theorem State.setTotes_loader (s : State) (v : ToteTracker) : (s.setTotes v).loader = s.loader := rfl
@[simp] theorem State.setTotes_items (s : State) (v : ToteTracker) : (s.setTotes v).items = s.items := rfl
@[simp] theorem State.setTotes_bays (s : State) (v : ToteTracker) : (s.setTotes v).bays = s.bays := rfl
@[simp] theorem State.setTotes_li (s : State) (v : ToteTracker) : (s.setTotes v).li = s.li := rfl
@[simp] theorem State.setTotes_peers (s : State) (v : ToteTracker) : (s.setTotes v).peers = s.peers := rfl
@[simp] theorem State.setTotes_totes (s : State) (v : ToteTracker) : (s.setTotes v).totes = v := rfl
@[simp] theorem State.setTotes_lane (s : State) (v : ToteTracker) : (s.setTotes v).lane = s.lane := rfl
@[simp] theorem State.setTotes_dev (s : State) (v : ToteTracker) : (s.setTotes v).dev = s.dev := rfl
@[simp] theorem State.setTotes_port (s : State) (v : ToteTracker) : (s.setTotes v).port = s.port := rfl
@[simp] theorem State.setTotes_draws (s : State) (v : ToteTracker) : (s.setTotes v).draws = s.draws := rfl

@[simp] theorem State.setLane_pending (s : State) (v : Lane) : (s.setLane v).pending = s.pending := rfl
@[simp] theorem State.setLane_resetLow (s : State) (v : Lane) : (s.setLane v).resetLow = s.resetLow := rfl
@[simp] theorem State.setLane_clock (s : State) (v : Lane) : (s.setLane v).clock = s.clock := rfl
@[simp] theorem State.setLane_ctl (s : State) (v : Lane) : (s.setLane v).ctl = s.ctl := rfl
@[simp] theorem State.setLane_loader (s : State) (v : Lane) : (s.setLane v).loader = s.loader := rfl
@[simp] theorem State.setLane_items (s : State) (v : Lane) : (s.setLane v).items = s.items := rfl
@[simp] theorem State.setLane_bays (s : State) (v : Lane) : (s.setLane v).bays = s.bays := rfl
@[simp] theorem State.setLane_li (s : State) (v : Lane) : (s.setLane v).li = s.li := rfl
@[simp] theorem State.setLane_peers (s : State) (v : Lane) : (s.setLane v).peers = s.peers := rfl
@[simp] theorem State.setLane_totes (s : State) (v : Lane) : (s.setLane v).totes = s.totes := rfl
@[simp] theorem State.setLane_lane (s : State) (v : Lane) : (s.setLane v).lane = v := rfl
@[simp] theorem State.setLane_dev (s : State) (v : Lane) : (s.setLane v).dev = s.dev := rfl
@[simp] theorem State.setLane_port (s : State) (v : Lane) : (s.setLane v).port = s.port := rfl
@[simp] theorem State.setLane_draws (s : State) (v : Lane) : (s.setLane v).draws = s.draws := rfl

@[simp] theorem State.setDev_pending (s : State) (v : DeviationTable) : (s.setDev v).pending = s.pending := rfl
@[simp] theorem State.setDev_resetLow (s : State) (v : DeviationTable) : (s.setDev v).resetLow = s.resetLow := rfl
@[simp] theorem State.setDev_clock (s : State) (v : DeviationTable) : (s.setDev v).clock = s.clock := rfl
@[simp] theorem State.setDev_ctl (s : State) (v : DeviationTable) : (s.setDev v).ctl = s.ctl := rfl
@[simp] theorem State.setDev_loader (s : State) (v : DeviationTable) : (s.setDev v).loader = s.loader := rfl
@[simp] theorem State.setDev_items (s : State) (v : DeviationTable) : (s.setDev v).items = s.items := rfl
@[simp] theorem State.setDev_bays (s : State) (v : DeviationTable) : (s.setDev v).bays = s.bays := rfl
@[simp] theorem State.setDev_li (s : State) (v : DeviationTable) : (s.setDev v).li = s.li := rfl
@[simp] theorem State.setDev_peers (s : State) (v : DeviationTable) : (s.setDev v).peers = s.peers := rfl
@[simp] theorem State.setDev_totes (s : State) (v : DeviationTable) : (s.setDev v).totes = s.totes := rfl
@[simp] theorem State.setDev_lane (s : State) (v : DeviationTable) : (s.setDev v).lane = s.lane := rfl
@[simp] theorem State.setDev_dev (s : State) (v : DeviationTable) : (s.setDev v).dev = v := rfl
@[simp] theorem State.setDev_port (s : State) (v : DeviationTable) : (s.setDev v).port = s.port := rfl
@[simp] theorem State.setDev_draws (s : State) (v : DeviationTable) : (s.setDev v).draws = s.draws := rfl

@[simp] theorem State.setPort_pending (s : State) (v : BenchPort) : (s.setPort v).pending = s.pending := rfl
@[simp] theorem State.setPort_resetLow (s : State) (v : BenchPort) : (s.setPort v).resetLow = s.resetLow := rfl
@[simp] theorem State.setPort_clock (s : State) (v : BenchPort) : (s.setPort v).clock = s.clock := rfl
@[simp] theorem State.setPort_ctl (s : State) (v : BenchPort) : (s.setPort v).ctl = s.ctl := rfl
@[simp] theorem State.setPort_loader (s : State) (v : BenchPort) : (s.setPort v).loader = s.loader := rfl
@[simp] theorem State.setPort_items (s : State) (v : BenchPort) : (s.setPort v).items = s.items := rfl
@[simp] theorem State.setPort_bays (s : State) (v : BenchPort) : (s.setPort v).bays = s.bays := rfl
@[simp] theorem State.setPort_li (s : State) (v : BenchPort) : (s.setPort v).li = s.li := rfl
@[simp] theorem State.setPort_peers (s : State) (v : BenchPort) : (s.setPort v).peers = s.peers := rfl
@[simp] theorem State.setPort_totes (s : State) (v : BenchPort) : (s.setPort v).totes = s.totes := rfl
@[simp] theorem State.setPort_lane (s : State) (v : BenchPort) : (s.setPort v).lane = s.lane := rfl
@[simp] theorem State.setPort_dev (s : State) (v : BenchPort) : (s.setPort v).dev = s.dev := rfl
@[simp] theorem State.setPort_port (s : State) (v : BenchPort) : (s.setPort v).port = v := rfl
@[simp] theorem State.setPort_draws (s : State) (v : BenchPort) : (s.setPort v).draws = s.draws := rfl

@[simp] theorem State.setDraws_pending (s : State) (v : Nat) : (s.setDraws v).pending = s.pending := rfl
@[simp] theorem State.setDraws_resetLow (s : State) (v : Nat) : (s.setDraws v).resetLow = s.resetLow := rfl
@[simp] theorem State.setDraws_clock (s : State) (v : Nat) : (s.setDraws v).clock = s.clock := rfl
@[simp] theorem State.setDraws_ctl (s : State) (v : Nat) : (s.setDraws v).ctl = s.ctl := rfl
@[simp] theorem State.setDraws_loader (s : State) (v : Nat) : (s.setDraws v).loader = s.loader := rfl
@[simp] theorem State.setDraws_items (s : State) (v : Nat) : (s.setDraws v).items = s.items := rfl
@[simp] theorem State.setDraws_bays (s : State) (v : Nat) : (s.setDraws v).bays = s.bays := rfl
@[simp] theorem State.setDraws_li (s : State) (v : Nat) : (s.setDraws v).li = s.li := rfl
@[simp] theorem State.setDraws_peers (s : State) (v : Nat) : (s.setDraws v).peers = s.peers := rfl
@[simp] theorem State.setDraws_totes (s : State) (v : Nat) : (s.setDraws v).totes = s.totes := rfl
@[simp] theorem State.setDraws_lane (s : State) (v : Nat) : (s.setDraws v).lane = s.lane := rfl
@[simp] theorem State.setDraws_dev (s : State) (v : Nat) : (s.setDraws v).dev = s.dev := rfl
@[simp] theorem State.setDraws_port (s : State) (v : Nat) : (s.setDraws v).port = s.port := rfl
@[simp] theorem State.setDraws_draws (s : State) (v : Nat) : (s.setDraws v).draws = v := rfl

@[simp] theorem State.setBay_pending (s : State) (b : BayNo) (x : Option Build) : (s.setBay b x).pending = s.pending := rfl
@[simp] theorem State.setBay_resetLow (s : State) (b : BayNo) (x : Option Build) : (s.setBay b x).resetLow = s.resetLow := rfl
@[simp] theorem State.setBay_clock (s : State) (b : BayNo) (x : Option Build) : (s.setBay b x).clock = s.clock := rfl
@[simp] theorem State.setBay_ctl (s : State) (b : BayNo) (x : Option Build) : (s.setBay b x).ctl = s.ctl := rfl
@[simp] theorem State.setBay_loader (s : State) (b : BayNo) (x : Option Build) : (s.setBay b x).loader = s.loader := rfl
@[simp] theorem State.setBay_items (s : State) (b : BayNo) (x : Option Build) : (s.setBay b x).items = s.items := rfl
@[simp] theorem State.setBay_li (s : State) (b : BayNo) (x : Option Build) : (s.setBay b x).li = s.li := rfl
@[simp] theorem State.setBay_peers (s : State) (b : BayNo) (x : Option Build) : (s.setBay b x).peers = s.peers := rfl
@[simp] theorem State.setBay_totes (s : State) (b : BayNo) (x : Option Build) : (s.setBay b x).totes = s.totes := rfl
@[simp] theorem State.setBay_lane (s : State) (b : BayNo) (x : Option Build) : (s.setBay b x).lane = s.lane := rfl
@[simp] theorem State.setBay_dev (s : State) (b : BayNo) (x : Option Build) : (s.setBay b x).dev = s.dev := rfl
@[simp] theorem State.setBay_port (s : State) (b : BayNo) (x : Option Build) : (s.setBay b x).port = s.port := rfl
@[simp] theorem State.setBay_draws (s : State) (b : BayNo) (x : Option Build) : (s.setBay b x).draws = s.draws := rfl
@[simp] theorem State.setBay_bays (s : State) (b : BayNo) (x : Option Build) :
    (s.setBay b x).bays = s.bays.set b x := rfl

/-- Reading the bay just written. -/
@[simp] theorem State.bay_setBay_self (s : State) (b : BayNo) (x : Option Build) : (s.setBay b x).bay b = x := by
  simp [State.bay, State.setBay]

/-- Reading another bay than the one written. -/
theorem State.bay_setBay_of_ne (s : State) (b c : BayNo) (x : Option Build) (h : c ≠ b) :
    (s.setBay b x).bay c = s.bay c := by
  have hv : (b : Nat) ≠ (c : Nat) := fun e => h (Fin.ext e.symm)
  simp [State.bay, State.setBay, hv]

/-- Reading any bay after one was written. -/
theorem State.bay_setBay (s : State) (b c : BayNo) (x : Option Build) :
    (s.setBay b x).bay c = if c = b then x else s.bay c := by
  by_cases h : c = b
  · subst h; simp
  · simp [h, State.bay_setBay_of_ne]

@[simp] theorem State.setPending_bay (s : State) (v : List Instr) (b : BayNo) : (s.setPending v).bay b = s.bay b := rfl
@[simp] theorem State.setResetLow_bay (s : State) (v : Bool) (b : BayNo) : (s.setResetLow v).bay b = s.bay b := rfl
@[simp] theorem State.setClock_bay (s : State) (v : Nat) (b : BayNo) : (s.setClock v).bay b = s.bay b := rfl
@[simp] theorem State.setCtl_bay (s : State) (v : ModeControl) (b : BayNo) : (s.setCtl v).bay b = s.bay b := rfl
@[simp] theorem State.setLoader_bay (s : State) (v : Loader) (b : BayNo) : (s.setLoader v).bay b = s.bay b := rfl
@[simp] theorem State.setItems_bay (s : State) (v : List ItemRecord) (b : BayNo) : (s.setItems v).bay b = s.bay b := rfl
@[simp] theorem State.setLi_bay (s : State) (v : LineInterface) (b : BayNo) : (s.setLi v).bay b = s.bay b := rfl
@[simp] theorem State.setPeers_bay (s : State) (v : PeerTracker) (b : BayNo) : (s.setPeers v).bay b = s.bay b := rfl
@[simp] theorem State.setTotes_bay (s : State) (v : ToteTracker) (b : BayNo) : (s.setTotes v).bay b = s.bay b := rfl
@[simp] theorem State.setLane_bay (s : State) (v : Lane) (b : BayNo) : (s.setLane v).bay b = s.bay b := rfl
@[simp] theorem State.setDev_bay (s : State) (v : DeviationTable) (b : BayNo) : (s.setDev v).bay b = s.bay b := rfl
@[simp] theorem State.setPort_bay (s : State) (v : BenchPort) (b : BayNo) : (s.setPort v).bay b = s.bay b := rfl
@[simp] theorem State.setDraws_bay (s : State) (v : Nat) (b : BayNo) : (s.setDraws v).bay b = s.bay b := rfl

end Sys2Proof.Machine
end

