-- ==== Sys2Proof/Laws/Frames.lean ====
section
/-! SUPPORT. What each shared operation leaves unchanged, field by field of State: one lemma for each operation, so that
a proof of a frame composes these and unfolds none of them. -/

namespace Sys2Proof.Machine

/-! ## The relation -/

theorem State.changedOnly_refl (s : State) (bs : List Block) : s.changedOnly s bs := by
  intro b _; cases b <;> rfl

theorem State.changedOnly_trans {s t u : State} {bs : List Block} (h : s.changedOnly t bs)
    (k : t.changedOnly u bs) : s.changedOnly u bs := by
  intro b hb
  have h1 := h b hb
  have h2 := k b hb
  cases b <;> exact h2.trans h1

theorem State.changedOnly_mono {s t : State} {bs cs : List Block} (h : s.changedOnly t bs)
    (hsub : ∀ b ∈ bs, b ∈ cs) : s.changedOnly t cs :=
  fun b hb => h b fun hin => hb (hsub b hin)

/-- A fold of steps that each change only some fields changes only those. -/
theorem State.changedOnly_foldl {α : Type} {bs : List Block} (f : State → α → State)
    (hf : ∀ (s : State) (a : α), s.changedOnly (f s a) bs) : ∀ (xs : List α) (s : State), s.changedOnly (xs.foldl f s) bs
  | [], s => s.changedOnly_refl bs
  | x :: xs, s => State.changedOnly_trans (hf s x) (State.changedOnly_foldl f hf xs (f s x))

/-! ## The updates -/

theorem State.setPending_changedOnly (s : State) (v : List Instr) : s.changedOnly (s.setPending v) [.pending] := by
  intro b hb; cases b <;> first | rfl | simp at hb

theorem State.setClock_changedOnly (s : State) (v : Nat) : s.changedOnly (s.setClock v) [.clock] := by
  intro b hb; cases b <;> first | rfl | simp at hb

theorem State.setCtl_changedOnly (s : State) (v : ModeControl) : s.changedOnly (s.setCtl v) [.ctl] := by
  intro b hb; cases b <;> first | rfl | simp at hb

theorem State.setLoader_changedOnly (s : State) (v : Loader) : s.changedOnly (s.setLoader v) [.loader] := by
  intro b hb; cases b <;> first | rfl | simp at hb

theorem State.setItems_changedOnly (s : State) (v : List ItemRecord) : s.changedOnly (s.setItems v) [.items] := by
  intro b hb; cases b <;> first | rfl | simp at hb

theorem State.setBays_changedOnly (s : State) (v : Vector (Option Build) 8) : s.changedOnly (s.setBays v) [.bays] := by
  intro b hb; cases b <;> first | rfl | simp at hb

theorem State.setLi_changedOnly (s : State) (v : LineInterface) : s.changedOnly (s.setLi v) [.li] := by
  intro b hb; cases b <;> first | rfl | simp at hb

theorem State.setPeers_changedOnly (s : State) (v : PeerTracker) : s.changedOnly (s.setPeers v) [.peers] := by
  intro b hb; cases b <;> first | rfl | simp at hb

theorem State.setTotes_changedOnly (s : State) (v : ToteTracker) : s.changedOnly (s.setTotes v) [.totes] := by
  intro b hb; cases b <;> first | rfl | simp at hb

theorem State.setLane_changedOnly (s : State) (v : Lane) : s.changedOnly (s.setLane v) [.lane] := by
  intro b hb; cases b <;> first | rfl | simp at hb

theorem State.setDev_changedOnly (s : State) (v : DeviationTable) : s.changedOnly (s.setDev v) [.dev] := by
  intro b hb; cases b <;> first | rfl | simp at hb

theorem State.setPort_changedOnly (s : State) (v : BenchPort) : s.changedOnly (s.setPort v) [.port] := by
  intro b hb; cases b <;> first | rfl | simp at hb

theorem State.setDraws_changedOnly (s : State) (v : Nat) : s.changedOnly (s.setDraws v) [.draws] := by
  intro b hb; cases b <;> first | rfl | simp at hb

theorem State.setBay_changedOnly (s : State) (b : BayNo) (x : Option Build) : s.changedOnly (s.setBay b x) [.bays] :=
  s.setBays_changedOnly _

/-! ## Flags, counters and records -/

theorem State.setFlag_changedOnly (s : State) (f : EventFlag) : s.changedOnly (s.setFlag f) [.port] :=
  s.setPort_changedOnly _

theorem State.setNote_changedOnly (s : State) (c : NoteCause) : s.changedOnly (s.setNote c) [.port] :=
  s.setPort_changedOnly _

theorem State.countLine_changedOnly (s : State) (f : LineCounters → LineCounters) :
    s.changedOnly (s.countLine f) [.li] := s.setLi_changedOnly _

theorem State.record_changedOnly (s : State) (k : DeviationKind) : s.changedOnly (s.record k) [.dev, .port] :=
  State.changedOnly_trans (State.changedOnly_mono (s.setDev_changedOnly _) (by simp))
    (State.changedOnly_mono (State.setFlag_changedOnly _ .deviation) (by simp))

/-! ## The outgoing queue -/

theorem State.setQueue_changedOnly (s : State) (q : List Notice) : s.changedOnly (s.setQueue q) [.li] :=
  s.setLi_changedOnly _

theorem State.offerMarker_changedOnly (s : State) : s.changedOnly s.offerMarker [.li] := by
  unfold State.offerMarker
  split
  · exact s.setQueue_changedOnly _
  · exact s.changedOnly_refl _

theorem State.changeCheck_changedOnly (s : State) : s.changedOnly s.changeCheck [.li] := by
  unfold State.changeCheck
  split
  · exact s.offerMarker_changedOnly
  · exact s.changedOnly_refl _

theorem State.offerTally_changedOnly (s : State) (p : Payload) : s.changedOnly (s.offerTally p) [.li, .port] := by
  unfold State.offerTally
  split
  · exact State.changedOnly_mono (s.countLine_changedOnly _) (by simp)
  · split
    · exact State.changedOnly_mono (s.setQueue_changedOnly _) (by simp)
    · exact State.changedOnly_trans (State.changedOnly_mono (s.countLine_changedOnly _) (by simp))
        (State.changedOnly_mono (State.setFlag_changedOnly _ .noticeLost) (by simp))

/-- An offered DRAW that is taken changes the outgoing queue and nothing else. -/
theorem State.offerDraw_some {s t : State} {p : Payload} (h : s.offerDraw p = some t) :
    s.ctl.mode ≠ .muted ∧ ∃ q, joinQueue s.li.queue p = some q ∧ t = s.setQueue q := by
  unfold State.offerDraw at h
  split at h
  · cases h
  · rename_i hm
    rw [Option.map_eq_some_iff] at h
    obtain ⟨q, hq, rfl⟩ := h
    exact ⟨hm, q, hq, rfl⟩

/-! ## Builds and lines -/

theorem State.modifyBuild_changedOnly (s : State) (b : BayNo) (f : Build → Build) :
    s.changedOnly (s.modifyBuild b f) [.bays] := by
  unfold State.modifyBuild
  split
  · exact s.changedOnly_refl _
  · exact s.setBay_changedOnly _ _

theorem State.modifyLine_changedOnly (s : State) (b : BayNo) (i : Nat) (f : Line → Line) :
    s.changedOnly (s.modifyLine b i f) [.bays] := s.modifyBuild_changedOnly _ _

theorem State.evalBays_changedOnly (s : State) (bs : List BayNo) : s.changedOnly (s.evalBays bs) [.bays] :=
  State.changedOnly_foldl _ (fun t b => t.modifyBuild_changedOnly b _) bs s

theorem State.pin_changedOnly (s : State) (a : Allocation) : s.changedOnly (s.pin a) [.bays] :=
  s.modifyLine_changedOnly _ _ _

theorem State.unpin_changedOnly (s : State) (a : Allocation) : s.changedOnly (s.unpin a) [.bays] :=
  s.modifyLine_changedOnly _ _ _

theorem State.unpinAll_changedOnly (s : State) (as : List Allocation) : s.changedOnly (s.unpinAll as) [.bays] :=
  State.changedOnly_foldl _ State.unpin_changedOnly as s

theorem State.place_changedOnly (s : State) (x : Allocation × Nat) : s.changedOnly (s.place x) [.bays] :=
  s.modifyLine_changedOnly _ _ _

theorem State.checkCompletion_changedOnly (s : State) (b : BayNo) :
    s.changedOnly (s.checkCompletion b) [.bays, .port] := by
  unfold State.checkCompletion
  split
  · exact s.changedOnly_refl _
  · dsimp only
    split
    · exact State.changedOnly_trans (State.changedOnly_mono (s.setBay_changedOnly _ _) (by simp))
        (State.changedOnly_mono (State.setFlag_changedOnly _ .bayReady) (by simp))
    · exact State.changedOnly_mono (s.setBay_changedOnly _ _) (by simp)

theorem State.bayStep_changedOnly (xs : List (Allocation × Nat)) (s : State) (b : BayNo) :
    s.changedOnly (State.bayStep xs s b) [.bays, .port] :=
  State.changedOnly_trans (State.changedOnly_mono (s.modifyBuild_changedOnly _ _) (by simp))
    (State.checkCompletion_changedOnly _ b)

theorem State.takeDeadline_changedOnly (s : State) (b : BayNo) :
    s.changedOnly (s.takeDeadline b) [.bays, .dev, .port] := by
  unfold State.takeDeadline
  split
  · exact s.changedOnly_refl _
  · split
    · exact State.changedOnly_mono (s.setBay_changedOnly _ _) (by simp)
    · exact State.changedOnly_trans (State.changedOnly_mono (s.setBay_changedOnly _ _) (by simp))
        (State.changedOnly_mono (State.record_changedOnly _ _) (by simp))

/-! ## Substitute trials and the accumulators -/

theorem State.switchLine_changedOnly (s : State) (b : BayNo) (i p : Nat) (bd : Build) (l : Line) :
    s.changedOnly (s.switchLine b i p bd l) [.bays, .li, .dev, .port] :=
  State.changedOnly_trans
    (State.changedOnly_trans (State.changedOnly_mono (s.modifyLine_changedOnly _ _ _) (by simp))
      (State.changedOnly_mono (State.record_changedOnly _ _) (by simp)))
    (State.changedOnly_mono (State.changeCheck_changedOnly _) (by simp))

theorem State.noFit_changedOnly (s : State) (b : BayNo) (i : Nat) (bd : Build) (l : Line) :
    s.changedOnly (s.noFit b i bd l) [.bays, .li, .dev, .port] := by
  unfold State.noFit
  dsimp only
  split
  · exact State.changedOnly_mono (s.modifyLine_changedOnly _ _ _) (by simp)
  · exact State.changedOnly_trans (State.changedOnly_mono (s.modifyLine_changedOnly _ _ _) (by simp))
      (State.changedOnly_mono (State.record_changedOnly _ _) (by simp))

theorem State.trial_changedOnly (s : State) (b : BayNo) (i : Nat) :
    s.changedOnly (s.trial b i) [.bays, .li, .dev, .port] := by
  unfold State.trial
  split
  · exact s.changedOnly_refl _
  · split
    · exact s.changedOnly_refl _
    · split
      · exact s.switchLine_changedOnly _ _ _ _ _
      · exact s.noFit_changedOnly _ _ _ _

theorem State.trials_changedOnly (s : State) (xs : List (BayNo × Nat)) :
    s.changedOnly (s.trials xs) [.bays, .li, .dev, .port, .draws] := by
  unfold State.trials
  split
  · exact s.changedOnly_refl _
  · exact State.changedOnly_mono (s.trial_changedOnly _ _) (by simp)
  · exact State.changedOnly_trans (State.changedOnly_mono (s.setDraws_changedOnly _) (by simp))
      (State.changedOnly_mono (State.changedOnly_foldl (bs := [.bays, .li, .dev, .port]) _
        (fun (t : State) (x : BayNo × Nat) => t.trial_changedOnly x.1 x.2) _ _) (by simp))

theorem State.reevaluate_changedOnly (s : State) (bs : List BayNo) :
    s.changedOnly (s.reevaluate bs) [.bays, .li, .dev, .port, .draws] :=
  State.changedOnly_trans (State.changedOnly_mono (s.evalBays_changedOnly bs) (by simp))
    (State.trials_changedOnly _ _)

/-! ## Modes, bays and the lane -/

theorem State.changeMode_changedOnly (s : State) (m : Mode) (bySetMode : Bool) :
    s.changedOnly (s.changeMode m bySetMode) [.ctl, .bays, .li, .dev, .port, .draws] := by
  have h : s.changedOnly (((s.withMode m).reevaluate allBays).changeCheck) [.ctl, .bays, .li, .dev, .port, .draws] :=
    State.changedOnly_trans
      (State.changedOnly_trans (State.changedOnly_mono (s.setCtl_changedOnly _) (by simp))
        (State.changedOnly_mono (State.reevaluate_changedOnly _ _) (by simp)))
      (State.changedOnly_mono (State.changeCheck_changedOnly _) (by simp))
  unfold State.changeMode
  dsimp only
  split
  · exact h
  · exact State.changedOnly_trans h (State.changedOnly_mono (State.setFlag_changedOnly _ _) (by simp))

theorem State.closingCheck_changedOnly (s : State) :
    s.changedOnly s.closingCheck [.ctl, .bays, .li, .dev, .port, .draws] := by
  unfold State.closingCheck
  split
  · exact s.changeMode_changedOnly _ _
  · exact s.changedOnly_refl _

theorem State.returnToEmpty_changedOnly (s : State) (b : BayNo) :
    s.changedOnly (s.returnToEmpty b) [.ctl, .bays, .li, .dev, .port, .draws] :=
  State.changedOnly_trans
    (State.changedOnly_trans (State.changedOnly_mono (s.setBay_changedOnly _ _) (by simp))
      (State.changedOnly_mono (State.changeCheck_changedOnly _) (by simp)))
    (State.closingCheck_changedOnly _)

theorem State.pulseMerge_changedOnly (s : State) : s.changedOnly s.pulseMerge [.lane] := s.setLane_changedOnly _

theorem State.endDeparture_changedOnly (s : State) (l : LaneEntry) :
    s.changedOnly (s.endDeparture l) [.ctl, .bays, .li, .lane, .dev, .port, .draws] :=
  State.changedOnly_trans
    (State.changedOnly_trans
      (State.changedOnly_trans (State.changedOnly_mono (s.setLane_changedOnly _) (by simp))
        (State.changedOnly_mono (State.reevaluate_changedOnly _ _) (by simp)))
      (State.changedOnly_mono (State.changeCheck_changedOnly _) (by simp)))
    (State.changedOnly_mono (State.closingCheck_changedOnly _) (by simp))

/-! ## Totes and peers -/

theorem State.setTable_changedOnly (s : State) (t : List ToteEntry) : s.changedOnly (s.setTable t) [.totes] :=
  s.setTotes_changedOnly _

theorem State.putEntry_changedOnly (s : State) (e : ToteEntry) : s.changedOnly (s.putEntry e) [.totes] :=
  s.setTable_changedOnly _

theorem State.markUncertain_changedOnly (s : State) : s.changedOnly s.markUncertain [.totes] :=
  s.setTable_changedOnly _

theorem State.settle_changedOnly (s : State) (l : LaneEntry) (f : ToteEntry → ToteEntry) :
    s.changedOnly (s.settle l f) [.li, .totes, .port] := by
  unfold State.settle
  split
  · exact s.changedOnly_refl _
  · exact State.changedOnly_trans (State.changedOnly_mono (s.setTable_changedOnly _) (by simp))
      (State.changedOnly_mono (State.offerTally_changedOnly _ _) (by simp))

theorem State.setPeer_changedOnly (s : State) (p : Nat) (r : PeerRecord) : s.changedOnly (s.setPeer p r) [.peers] :=
  s.setPeers_changedOnly _

theorem State.setHeard_changedOnly (s : State) (h : List HeardEntry) : s.changedOnly (s.setHeard h) [.peers] :=
  s.setPeers_changedOnly _

theorem State.removeHeard_changedOnly (s : State) (p : Nat) : s.changedOnly (s.removeHeard p) [.peers] :=
  s.setHeard_changedOnly _

theorem State.insertHeard_changedOnly (s : State) (h : HeardEntry) : s.changedOnly (s.insertHeard h) [.peers] := by
  unfold State.insertHeard
  split
  · exact s.setHeard_changedOnly _
  · split
    · exact s.changedOnly_refl _
    · split
      · exact s.setHeard_changedOnly _
      · exact s.setPeers_changedOnly _

theorem State.gap_changedOnly (s : State) : s.changedOnly s.gap [.li, .totes] :=
  State.changedOnly_trans (State.changedOnly_mono (s.countLine_changedOnly _) (by simp))
    (State.changedOnly_mono (State.markUncertain_changedOnly _) (by simp))

theorem State.rosterUpdate_changedOnly (s : State) (p : Nat) (isJoin : Bool) (sequence : Byte) :
    s.changedOnly (s.rosterUpdate p isJoin sequence) [.peers, .li, .totes] := by
  unfold State.rosterUpdate
  dsimp only
  split
  · exact State.changedOnly_trans (State.changedOnly_mono s.gap_changedOnly (by simp))
      (State.changedOnly_mono (State.setPeer_changedOnly _ _ _) (by simp))
  · exact State.changedOnly_mono (s.setPeer_changedOnly _ _) (by simp)

/-! ## The bench port -/

theorem State.ignoreTransaction_changedOnly (s : State) (n : Nat) : s.changedOnly (s.ignoreTransaction n) [.port] :=
  s.setPort_changedOnly _

theorem State.beginRequest_changedOnly (s : State) (n : Nat) : s.changedOnly (s.beginRequest n) [.port] :=
  s.setPort_changedOnly _

theorem State.finishRequest_changedOnly (s : State) (r : Reply) : s.changedOnly (s.finishRequest r) [.port] :=
  s.setPort_changedOnly _

/-- A request changes the port and what its owner changes. -/
theorem State.serve_changedOnly (s : State) (rule : List Byte → Bool) (open' : Bool) (refusal : Status → Reply)
    (tx : List Byte) (owner : List Byte → State → State × Reply) (bs : List Block)
    (h : ∀ (block : List Byte) (t : State), t.changedOnly (owner block t).1 bs) :
    s.changedOnly (s.serve rule open' refusal tx owner) (.port :: bs) := by
  unfold State.serve
  split
  · exact State.changedOnly_mono (s.ignoreTransaction_changedOnly _) (by simp)
  · split
    · exact State.changedOnly_trans (State.changedOnly_mono (s.beginRequest_changedOnly _) (by simp))
        (State.changedOnly_mono (State.finishRequest_changedOnly _ _) (by simp))
    · exact State.changedOnly_trans
        (State.changedOnly_trans (State.changedOnly_mono (s.beginRequest_changedOnly _) (by simp))
          (State.changedOnly_mono (h _ _) (by simp_all)))
        (State.changedOnly_mono (State.finishRequest_changedOnly _ _) (by simp))

end Sys2Proof.Machine
end

