-- ==== Sys2Proof/Laws/Line.lean ====
section
/-! SUPPORT. The Line Interface and the idle line: what seeing one changes (R56, R74), and all that an attempt or a
frame command can do (R63, R68, R74). -/

namespace Sys2Proof.Machine

@[simp] theorem State.seeIdle_idleSeen (s : State) : s.seeIdle.li.idleSeen = true := rfl
@[simp] theorem State.seeIdle_queue (s : State) : s.seeIdle.li.queue = s.li.queue := rfl
@[simp] theorem State.seeIdle_seq (s : State) : s.seeIdle.li.seq = s.li.seq := rfl
@[simp] theorem State.seeIdle_phase (s : State) : s.seeIdle.li.phase = s.li.phase := rfl
@[simp] theorem State.seeIdle_lde (s : State) : s.seeIdle.li.lde = s.li.lde := rfl
@[simp] theorem State.seeIdle_ltxd (s : State) : s.seeIdle.li.ltxd = s.li.ltxd := rfl
@[simp] theorem State.seeIdle_counters (s : State) : s.seeIdle.li.counters = s.li.counters := rfl
@[simp] theorem State.seeIdle_ctl (s : State) : s.seeIdle.ctl = s.ctl := rfl
@[simp] theorem State.seeIdle_clock (s : State) : s.seeIdle.clock = s.clock := rfl
@[simp] theorem State.seeIdle_peers (s : State) : s.seeIdle.peers = s.peers := rfl
@[simp] theorem State.seeIdle_totes (s : State) : s.seeIdle.totes = s.totes := rfl

theorem State.seeIdle_changedOnly (s : State) : s.changedOnly s.seeIdle [.li] := s.setLi_changedOnly _

/-- Once an idle line has been seen, seeing another changes nothing. -/
theorem State.seeIdle_of_idleSeen {s : State} (h : s.li.idleSeen = true) : s.seeIdle = s := by
  have hl : { s.li with idleSeen := true } = s.li := by rw [← h]
  unfold State.seeIdle State.setLi
  rw [hl]

/-- All that a frame command can do: nothing in LOADING or while the part transmits; before the first idle line it
shows that one; after it, what the frame's class says. -/
theorem State.receive_cases (s : State) (c : FrameClass) :
    ((s.ctl.mode = .loading ∨ s.li.lde = true) ∧ s.receive c = s)
      ∨ (s.ctl.mode ≠ .loading ∧ s.li.lde = false ∧ s.li.idleSeen = false ∧ s.receive c = s.seeIdle)
      ∨ (s.ctl.mode ≠ .loading ∧ s.li.lde = false ∧ s.li.idleSeen = true ∧ s.receive c = s.takeFrame c) := by
  unfold State.receive State.receives
  by_cases hm : s.ctl.mode = .loading
  · exact .inl ⟨.inl hm, by simp [hm]⟩
  · cases hd : s.li.lde with
    | true => exact .inl ⟨.inr rfl, by simp⟩
    | false =>
      cases hi : s.li.idleSeen with
      | false => exact .inr (.inl ⟨hm, rfl, rfl, by simp [hm]⟩)
      | true => exact .inr (.inr ⟨hm, rfl, rfl, by simp [hm]⟩)

/-- All that ATTEMPT can do: nothing on a busy line or in LOADING; otherwise the idle line is seen, and an attempt of
the head notice begins unless the station is MUTED, an attempt, a jam or a backoff goes on, or the queue is empty. -/
theorem State.attempt_cases (s : State) (lineIdle : Bool) :
    ((lineIdle = false ∨ s.ctl.mode = .loading) ∧ s.attempt lineIdle = s)
      ∨ (lineIdle = true ∧ s.ctl.mode ≠ .loading
        ∧ (((s.ctl.mode = .muted ∨ s.li.phase ≠ .waiting ∨ s.li.queue = []) ∧ s.attempt lineIdle = s.seeIdle)
          ∨ ∃ n rest, s.ctl.mode ≠ .muted ∧ s.li.phase = .waiting ∧ s.li.queue = n :: rest
            ∧ s.attempt lineIdle
              = if n.attempts = 0 then s.seeIdle.firstAttempt n rest else s.seeIdle.laterAttempt n rest)) := by
  unfold State.attempt
  by_cases h : lineIdle = false ∨ s.ctl.mode = .loading
  · exact .inl ⟨h, if_pos h⟩
  · obtain ⟨hi, hm⟩ := not_or.mp h
    refine .inr ⟨by simpa using hi, hm, ?_⟩
    rw [if_neg h]
    by_cases hb : s.ctl.mode = .muted ∨ s.li.phase ≠ .waiting
    · exact .inl ⟨hb.elim .inl (.inr ∘ .inl), if_pos hb⟩
    · obtain ⟨hu, hp⟩ := not_or.mp hb
      cases hq : s.li.queue with
      | nil => exact .inl ⟨.inr (.inr rfl), by simp [State.beginAttempt, hu, hq]⟩
      | cons n rest =>
        exact .inr ⟨n, rest, hu, not_not.mp hp, rfl, by simp [State.beginAttempt, hu, not_not.mp hp, hq]⟩

end Sys2Proof.Machine
end

