-- ==== Sys2Proof/Laws/Reader.lean ====
section
/-! SUPPORT. The reader port: what the decoder's state is after each thing RDRX brings (R95), and that no reader command
reaches further than a divert does. -/

namespace Sys2Proof.Machine

/-! ## The decoder -/

@[simp] theorem State.setDecoder_decoder (s : State) (d : ReaderDecoder) : (s.setDecoder d).totes.decoder = d := rfl
@[simp] theorem State.setDecoder_table (s : State) (d : ReaderDecoder) :
    (s.setDecoder d).totes.table = s.totes.table := rfl
@[simp] theorem State.setDecoder_lane (s : State) (d : ReaderDecoder) : (s.setDecoder d).lane = s.lane := rfl
@[simp] theorem State.setDecoder_ctl (s : State) (d : ReaderDecoder) : (s.setDecoder d).ctl = s.ctl := rfl
@[simp] theorem State.malformedRead_decoder (s : State) : s.malformedRead.totes.decoder = s.totes.decoder := rfl

/-- A decoder that is stopped stays so whatever RDRX brings (R95). -/
theorem State.readerActivity_stopped {s : State} (h : s.totes.decoder = .stopped) (laneFull : Bool) :
    ∀ activity : List ReaderEvent, s.readerActivity activity laneFull = s
  | [] => rfl
  | e :: es => by
    have hs : State.readerEvent laneFull s e = s := by
      cases e <;> simp [State.readerEvent, State.readerIdle, State.readerCharacter, h]
    have hc : s.readerActivity (e :: es) laneFull = (State.readerEvent laneFull s e).readerActivity es laneFull := rfl
    rw [hc, hs]
    exact s.readerActivity_stopped h laneFull es

/-- Activity is taken in the order it came. -/
theorem State.readerActivity_append (s : State) (xs ys : List ReaderEvent) (laneFull : Bool) :
    s.readerActivity (xs ++ ys) laneFull = (s.readerActivity xs laneFull).readerActivity ys laneFull := by
  simp [State.readerActivity]

/-- A character that leaves the frame in assembly short of eight only joins it (R95). -/
theorem State.readerCharacter_assembling {s : State} {frame : List ReaderChar} (c : ReaderChar) (laneFull : Bool)
    (h : s.totes.decoder = .assembling frame) (hl : frame.length < 7) :
    s.readerCharacter laneFull c = s.setDecoder (.assembling (frame ++ [c])) := by
  have hb : frame.length + 1 < readerFrameBytes := by unfold readerFrameBytes; omega
  simp [State.readerCharacter, h, hb]

/-- The eighth character completes the frame (R95). -/
theorem State.readerCharacter_eighth {s : State} {frame : List ReaderChar} (c : ReaderChar) (laneFull : Bool)
    (h : s.totes.decoder = .assembling frame) (hl : frame.length = 7) :
    s.readerCharacter laneFull c = (s.setDecoder (.taken false)).readerFrame (frame ++ [c]) laneFull := by
  have hb : ¬ frame.length + 1 < readerFrameBytes := by unfold readerFrameBytes; omega
  simp [State.readerCharacter, h, hb]

/-! ## Frames -/

/-- All that a reader command can reach: what a divert changes (R116). -/
def readerBlocks : List Block := [.bays, .li, .totes, .lane, .dev, .port, .draws]

theorem State.setDecoder_changedOnly (s : State) (d : ReaderDecoder) : s.changedOnly (s.setDecoder d) [.totes] :=
  s.setTotes_changedOnly _

theorem State.malformedRead_changedOnly (s : State) : s.changedOnly s.malformedRead [.totes] := s.setTotes_changedOnly _

theorem State.divert_changedOnly (s : State) (e : ToteEntry) (as : List Allocation) :
    s.changedOnly (s.divert e as) readerBlocks :=
  State.changedOnly_trans
    (State.changedOnly_trans
      (State.changedOnly_trans
        (State.changedOnly_trans (State.changedOnly_mono (s.setLane_changedOnly _) (by simp [readerBlocks]))
          (State.changedOnly_foldl _
            (fun t a => State.changedOnly_mono (t.pin_changedOnly a) (by simp [readerBlocks])) _ _))
        (State.changedOnly_mono (State.reevaluate_changedOnly _ _) (by simp [readerBlocks])))
      (State.changedOnly_mono (State.putEntry_changedOnly _ _) (by simp [readerBlocks])))
    (State.changedOnly_mono (State.changeCheck_changedOnly _) (by simp [readerBlocks]))

theorem State.shareDecision_changedOnly (s : State) (laneFull : Bool) (e : ToteEntry) :
    s.changedOnly (s.shareDecision laneFull e) readerBlocks := by
  unfold State.shareDecision
  split
  · exact s.changedOnly_refl _
  · split
    · exact s.changedOnly_refl _
    · rename_i u h
      obtain ⟨-, q, -, rfl⟩ := State.offerDraw_some h
      exact State.changedOnly_trans (State.changedOnly_mono (s.setQueue_changedOnly _) (by simp [readerBlocks]))
        (State.divert_changedOnly _ _ _)

theorem State.readerFrame_changedOnly (s : State) (frame : List ReaderChar) (laneFull : Bool) :
    s.changedOnly (s.readerFrame frame laneFull) readerBlocks := by
  unfold State.readerFrame
  split
  · exact State.changedOnly_mono s.malformedRead_changedOnly (by simp [readerBlocks])
  · split
    · exact State.changedOnly_mono (s.setTotes_changedOnly _) (by simp [readerBlocks])
    · exact State.changedOnly_trans
        (State.changedOnly_trans (State.changedOnly_mono (s.setTotes_changedOnly _) (by simp [readerBlocks]))
          (State.changedOnly_mono (State.putEntry_changedOnly _ _) (by simp [readerBlocks])))
        (State.shareDecision_changedOnly _ _ _)

theorem State.readerIdle_changedOnly (s : State) : s.changedOnly s.readerIdle [.totes] := by
  unfold State.readerIdle
  split
  · exact s.changedOnly_refl _
  · exact s.setDecoder_changedOnly _
  · exact s.changedOnly_refl _
  · exact State.changedOnly_trans (s.setDecoder_changedOnly _) (State.malformedRead_changedOnly _)
  · exact s.setDecoder_changedOnly _
  · exact State.changedOnly_trans (s.setDecoder_changedOnly _) (State.malformedRead_changedOnly _)

theorem State.endShortFrame_changedOnly (s : State) : s.changedOnly s.endShortFrame [.totes] := by
  unfold State.endShortFrame
  split
  · exact s.changedOnly_refl _
  · exact s.setDecoder_changedOnly _
  · exact State.changedOnly_trans (s.setDecoder_changedOnly _) (State.malformedRead_changedOnly _)
  · exact State.changedOnly_trans (s.setDecoder_changedOnly _) (State.malformedRead_changedOnly _)

theorem State.readerCharacter_changedOnly (s : State) (laneFull : Bool) (c : ReaderChar) :
    s.changedOnly (s.readerCharacter laneFull c) readerBlocks := by
  have hd (t : State) (d : ReaderDecoder) : t.changedOnly (t.setDecoder d) readerBlocks :=
    State.changedOnly_mono (t.setDecoder_changedOnly d) (by simp [readerBlocks])
  unfold State.readerCharacter
  split
  · exact s.changedOnly_refl _
  · exact s.changedOnly_refl _
  · split
    · exact hd _ _
    · exact State.changedOnly_trans (hd _ _) (State.readerFrame_changedOnly _ _ _)
  · exact hd _ _

/-- Whatever RDRX brings, only what a divert changes can change. -/
theorem State.readerActivity_changedOnly (s : State) (activity : List ReaderEvent) (laneFull : Bool) :
    s.changedOnly (s.readerActivity activity laneFull) readerBlocks :=
  State.changedOnly_foldl _
    (fun t e => by
      cases e with
      | idle => exact State.changedOnly_mono t.readerIdle_changedOnly (by simp [readerBlocks])
      | character c => exact t.readerCharacter_changedOnly laneFull c) activity s

end Sys2Proof.Machine
end

