-- ==== Sys2Proof/Laws/Requests.lean ====
section
/-! SUPPORT. What the Bench Port does with a transaction, once for all requests (R173 to R176). -/

namespace Sys2Proof.Machine

/-- While RESET is not low an event takes its effect. -/
theorem State.whileUp_of_up {s : State} (f : State → State) (h : s.resetLow = false) : s.whileUp f = f s := by
  simp [State.whileUp, h]

/-- While RESET is low an event takes none (R161). -/
theorem State.whileUp_of_low {s : State} (f : State → State) (h : s.resetLow = true) : s.whileUp f = s := by
  simp [State.whileUp, h]

/-- A block sent whole and nothing after it is carried. -/
theorem carries_requestBytes {block : List Byte} (h : block.length ≤ 250) : carries (requestBytes block) block :=
  ⟨h, [], by simp [requestBytes]⟩

/-- The length byte of a carried block. -/
theorem toNat_ofNat_length {n : Nat} (h : n ≤ 250) : (BitVec.ofNat 8 n).toNat = n := by
  rw [BitVec.toNat_ofNat]
  omega

/-- Checks 2 to 4 of R175 on a transaction that carries its block whole. -/
theorem checkRequest_carries {tx block : List Byte} (rule : List Byte → Bool) (closed : Bool) (h : carries tx block) :
    checkRequest rule closed tx
      = if rule block = false then .error .badRequest else if closed = true then .error .busy else .ok block := by
  obtain ⟨hn, beyond, rfl⟩ := h
  have hl : ¬ ((block ++ beyond).length < block.length ∨ 250 < block.length) := by simp; omega
  simp only [checkRequest, toNat_ofNat_length hn, if_neg hl, List.take_left']

/-- A request's answer on a listening port with no other change is `replied`. -/
theorem State.begin_finish {s : State} (n : Nat) (r : Reply) (h : s.port.state = .idle) :
    (s.beginRequest n).finishRequest r = s.replied n r := by
  simp [State.beginRequest, State.finishRequest, State.replied, State.setPort, h, PortState.linkByte]

/-- A transaction of either kind while the port is HANDLING is ignored whole (R174). -/
theorem State.serve_handling {s : State} (rule : List Byte → Bool) (open' : Bool) (refusal : Status → Reply)
    (tx : List Byte) (owner : List Byte → State → State × Reply) (h : s.port.state = .handling) :
    s.serve rule open' refusal tx owner = s.ignoreTransaction tx.length := by
  simp [State.serve, h]

/-- A request that fails a check of R175 is answered and does nothing else. -/
theorem State.serve_refused {s : State} {rule : List Byte → Bool} {open' : Bool} {tx : List Byte} {st : Status}
    (refusal : Status → Reply) (owner : List Byte → State → State × Reply) (h : s.port.state = .idle)
    (hc : checkRequest rule (s.ctl.mode == .loading && !open') tx = .error st) :
    s.serve rule open' refusal tx owner = s.replied tx.length (refusal st) := by
  simp [State.serve, h, hc, State.begin_finish]

/-- A request that passes every check of R175 goes to its owner, whose reply is put in the buffer. -/
theorem State.serve_taken {s : State} {rule : List Byte → Bool} {open' : Bool} {tx block : List Byte}
    (refusal : Status → Reply) (owner : List Byte → State → State × Reply) (h : s.port.state = .idle)
    (hc : checkRequest rule (s.ctl.mode == .loading && !open') tx = .ok block) :
    s.serve rule open' refusal tx owner
      = (owner block (s.beginRequest tx.length)).1.finishRequest (owner block (s.beginRequest tx.length)).2 := by
  simp [State.serve, h, hc]

/-- What a request does on a listening port whose mode takes it, its block carried whole and of the right length. -/
theorem State.serve_carries {s : State} {rule : List Byte → Bool} {open' : Bool} {tx block : List Byte}
    (refusal : Status → Reply) (owner : List Byte → State → State × Reply) (h : s.port.state = .idle)
    (hm : s.ctl.mode ≠ .loading ∨ open' = true) (hb : carries tx block) (hr : rule block = true) :
    s.serve rule open' refusal tx owner
      = (owner block (s.beginRequest tx.length)).1.finishRequest (owner block (s.beginRequest tx.length)).2 := by
  apply State.serve_taken refusal owner h
  have hclosed : (s.ctl.mode == .loading && !open') = false := by
    rcases hm with hm | hm
    · simp [hm]
    · simp [hm]
  rw [checkRequest_carries rule _ hb, hclosed, hr]
  simp

@[simp] theorem State.beginRequest_ctl (s : State) (n : Nat) : (s.beginRequest n).ctl = s.ctl := rfl
@[simp] theorem State.beginRequest_clock (s : State) (n : Nat) : (s.beginRequest n).clock = s.clock := rfl
@[simp] theorem State.beginRequest_loader (s : State) (n : Nat) : (s.beginRequest n).loader = s.loader := rfl
@[simp] theorem State.beginRequest_items (s : State) (n : Nat) : (s.beginRequest n).items = s.items := rfl
@[simp] theorem State.beginRequest_bays (s : State) (n : Nat) : (s.beginRequest n).bays = s.bays := rfl
@[simp] theorem State.beginRequest_bay (s : State) (n : Nat) (b : BayNo) : (s.beginRequest n).bay b = s.bay b := rfl
@[simp] theorem State.beginRequest_li (s : State) (n : Nat) : (s.beginRequest n).li = s.li := rfl
@[simp] theorem State.beginRequest_peers (s : State) (n : Nat) : (s.beginRequest n).peers = s.peers := rfl
@[simp] theorem State.beginRequest_totes (s : State) (n : Nat) : (s.beginRequest n).totes = s.totes := rfl
@[simp] theorem State.beginRequest_lane (s : State) (n : Nat) : (s.beginRequest n).lane = s.lane := rfl
@[simp] theorem State.beginRequest_dev (s : State) (n : Nat) : (s.beginRequest n).dev = s.dev := rfl
@[simp] theorem State.beginRequest_draws (s : State) (n : Nat) : (s.beginRequest n).draws = s.draws := rfl
@[simp] theorem State.beginRequest_flags (s : State) (n : Nat) : (s.beginRequest n).port.flags = s.port.flags := rfl
@[simp] theorem State.beginRequest_cause (s : State) (n : Nat) : (s.beginRequest n).port.cause = s.port.cause := rfl
@[simp] theorem State.beginRequest_enables (s : State) (n : Nat) :
    (s.beginRequest n).port.enables = s.port.enables := rfl
@[simp] theorem State.beginRequest_attn (s : State) (n : Nat) : (s.beginRequest n).port.attn = s.port.attn := rfl

end Sys2Proof.Machine
end

