-- ==== Sys2Proof/Laws/Trials.lean ====
section
/-! SUPPORT. What an evaluation of the wait accumulators, and the substitute trials it starts, can do to the rest of the
part: `State.tried` says it once, and every operation that evaluates accumulators is shown to do no more. -/

namespace Sys2Proof.Machine

/-! ## The outgoing queue -/

/-- `l'` is `l`, or `l` had no DEMAND marker waiting and `l'` has one at its tail. Unlike `withMarker` this composes. -/
def LineInterface.marked (l l' : LineInterface) : Prop :=
  l' = l ∨ (l.queue.any Notice.isMarker = false ∧ l' = { l with queue := l.queue ++ [Notice.fresh none] })

theorem LineInterface.marked_withMarker {l l' : LineInterface} (h : l.marked l') : l.withMarker l' :=
  h.imp id And.right

theorem LineInterface.marked_trans {a b c : LineInterface} (h : a.marked b) (k : b.marked c) : a.marked c := by
  obtain rfl | ⟨hn, rfl⟩ := h
  · exact k
  · obtain rfl | ⟨hm, -⟩ := k
    · exact .inr ⟨hn, rfl⟩
    · simp [Notice.fresh, Notice.isMarker] at hm

/-- An offered marker joins the tail or changes nothing (R62). -/
theorem State.offerMarker_marked (s : State) : s.li.marked s.offerMarker.li := by
  unfold State.offerMarker
  split
  · rename_i h
    exact .inr ⟨h.2.2, rfl⟩
  · exact .inl rfl

/-- A change check offers a marker or does nothing (R91). -/
theorem State.changeCheck_marked (s : State) : s.li.marked s.changeCheck.li := by
  unfold State.changeCheck
  split
  · exact s.offerMarker_marked
  · exact .inl rfl

/-! ## Event flags -/

theorem BenchPort.onlyRaises_refl (p : BenchPort) (fs : List EventFlag) : p.onlyRaises p fs :=
  ⟨rfl, rfl, fun _ h => h, fun _ h => .inl h⟩

theorem BenchPort.onlyRaises_trans {p q r : BenchPort} {fs : List EventFlag} (h : p.onlyRaises q fs)
    (k : q.onlyRaises r fs) : p.onlyRaises r fs :=
  ⟨k.1.trans h.1, k.2.1.trans h.2.1, fun f hf => k.2.2.1 f (h.2.2.1 f hf),
    fun f hf => (k.2.2.2 f hf).elim (h.2.2.2 f) .inr⟩

theorem BenchPort.onlyRaises_mono {p q : BenchPort} {fs gs : List EventFlag} (h : p.onlyRaises q fs)
    (hsub : ∀ f ∈ fs, f ∈ gs) : p.onlyRaises q gs :=
  ⟨h.1, h.2.1, h.2.2.1, fun f hf => (h.2.2.2 f hf).imp id (hsub f)⟩

/-- Which flags stand after one is set (R180). -/
theorem BenchPort.isSet_setFlag (p : BenchPort) (f g : EventFlag) :
    g.isSet (p.setFlag f) = (g.isSet p || decide (g = f)) := by
  cases f <;> cases g <;>
    simp [EventFlag.isSet, BenchPort.setFlag, BenchPort.evalAttn, EventFlag.mask, EventFlag.position]

theorem BenchPort.setFlag_onlyRaises (p : BenchPort) (f : EventFlag) : p.onlyRaises (p.setFlag f) [f] := by
  refine ⟨rfl, rfl, fun g hg => ?_, fun g hg => ?_⟩
  · simp [BenchPort.isSet_setFlag, hg]
  · rw [BenchPort.isSet_setFlag, Bool.or_eq_true, decide_eq_true_eq] at hg
    exact hg.imp id (by simp)

theorem BenchPort.keepsReply_refl (p : BenchPort) : p.keepsReply p := ⟨rfl, rfl, rfl, rfl⟩

theorem BenchPort.keepsReply_trans {p q r : BenchPort} (h : p.keepsReply q) (k : q.keepsReply r) : p.keepsReply r :=
  ⟨k.1.trans h.1, k.2.1.trans h.2.1, k.2.2.1.trans h.2.2.1, k.2.2.2.trans h.2.2.2⟩

theorem BenchPort.setFlag_keepsReply (p : BenchPort) (f : EventFlag) : p.keepsReply (p.setFlag f) := ⟨rfl, rfl, rfl, rfl⟩

/-! ## Deviation records -/

theorem DeviationTable.withTrials_refl (now : Nat) (d : DeviationTable) : d.withTrials now d := ⟨[], by simp, rfl⟩

theorem DeviationTable.withTrials_trans {now : Nat} {a b c : DeviationTable} (h : a.withTrials now b)
    (k : b.withTrials now c) : a.withTrials now c := by
  obtain ⟨xs, hx, rfl⟩ := h
  obtain ⟨ys, hy, rfl⟩ := k
  refine ⟨xs ++ ys, fun x hm => ?_, List.foldl_append.symm⟩
  exact (List.mem_append.mp hm).elim (hx x) (hy x)

theorem DeviationTable.withTrials_add {now : Nat} {d : DeviationTable} {k : DeviationKind} (h : k.isTrial = true) :
    d.withTrials now (d.add now k) := ⟨[k], by simpa using h, rfl⟩

/-! ## Lines and builds -/

theorem State.sameStock_refl (s : State) : s.sameStock s := fun _ => rfl

theorem State.sameStock_trans {s t u : State} (h : s.sameStock t) (k : t.sameStock u) : s.sameStock u :=
  fun b => (k b).trans (h b)

/-- What the running condition of R48 reads of a line and its build stays when the stock stays. -/
theorem running_of_stock {mode : Mode} {items : List ItemRecord} {bd bd' : Build} {l l' : Line}
    (hw : bd'.work = bd.work) (hh : bd'.held = bd.held) (hl : l'.stock = l.stock) :
    running mode items bd' l' = running mode items bd l := by
  simp only [Line.stock, Line.mk.injEq] at hl
  obtain ⟨h1, -, -, h2, h3, h4, -⟩ := hl
  simp [running, advertised, Build.offers, Line.needed, Line.chilled, hw, hh, h1, h2, h3, h4]

@[simp] theorem Wait.start_isSome (w : Wait) (now : Nat) : (w.start now).runStart.isSome = true := by
  unfold Wait.start
  split <;> simp_all

@[simp] theorem Wait.stop_runStart (w : Wait) (now : Nat) : (w.stop now).runStart = none := rfl

@[simp] theorem Wait.zero_isSome (w : Wait) (now : Nat) : (w.zero now).runStart.isSome = w.runStart.isSome := by
  simp [Wait.zero]

@[simp] theorem Wait.start_value (w : Wait) (now : Nat) : (w.start now).value now = w.value now := by
  cases w with
  | mk stored runStart => cases runStart <;> simp [Wait.start, Wait.value]

@[simp] theorem Wait.stop_value (w : Wait) (now : Nat) : (w.stop now).value now = w.value now := rfl

@[simp] theorem Wait.zero_value (w : Wait) (now : Nat) : (w.zero now).value now = 0 := by
  cases w with
  | mk stored runStart => cases runStart <;> simp [Wait.zero, Wait.value]

/-- An evaluation keeps an accumulator's value, whether it starts, stops or goes on (R47, R48). -/
@[simp] theorem evalLine_value (mode : Mode) (items : List ItemRecord) (now : Nat) (bd : Build) (l : Line) :
    (evalLine mode items now bd l).wait.value now = l.wait.value now := by
  unfold evalLine
  dsimp only
  split <;> simp

theorem evalLine_untriedTo (mode : Mode) (items : List ItemRecord) (now : Nat) (bd : Build) (l : Line) :
    l.untriedTo now (evalLine mode items now bd l) := ⟨rfl, by simp, rfl, rfl⟩

theorem Line.switched_triedTo {now p : Nat} {l : Line} (h : l.position < p) : l.triedTo now (l.switched now p) :=
  .inl ⟨h, by simp [Line.switched], rfl, rfl⟩

theorem Line.unswitched_triedTo (now : Nat) (l : Line) : l.triedTo now l.unswitched := .inr ⟨rfl, rfl, rfl, rfl⟩

theorem State.modifyBuild_bay (s : State) (b c : BayNo) (f : Build → Build) :
    (s.modifyBuild b f).bay c = if c = b then (s.bay b).map f else s.bay c := by
  unfold State.modifyBuild
  split
  · rename_i h
    by_cases hc : c = b
    · subst hc; simp [h]
    · simp [hc]
  · rename_i bd h
    rw [State.bay_setBay]
    simp [h]

/-- A change of one line that keeps its stock keeps every bay's. -/
theorem State.modifyLine_sameStock (s : State) (b : BayNo) (i : Nat) (f : Line → Line)
    (hf : ∀ l, (f l).stock = l.stock) : s.sameStock (s.modifyLine b i f) := by
  intro c
  unfold State.modifyLine
  rw [State.modifyBuild_bay]
  split
  · rename_i hc
    subst hc
    cases s.bay c with
    | none => rfl
    | some bd =>
      simp only [Option.map_some, Build.stock, Option.some.injEq, Build.mk.injEq, and_true, true_and]
      apply List.ext_getElem?
      intro k
      simp only [List.getElem?_map, List.getElem?_modify]
      cases bd.lines[k]? with
      | none => rfl
      | some l => by_cases hk : i = k <;> simp [hk, hf]
  · rfl

/-- A change of one line that keeps its stock and whether its accumulator runs keeps the accumulators on their
condition. -/
theorem State.modifyLine_waitsFollow (s : State) (b c : BayNo) (i : Nat) (f : Line → Line)
    (hf : ∀ l, (f l).stock = l.stock) (hr : ∀ l, (f l).wait.runStart.isSome = l.wait.runStart.isSome)
    (h : s.waitsFollow c) : (s.modifyLine b i f).waitsFollow c := by
  have hm : (s.modifyLine b i f).ctl = s.ctl := s.modifyLine_changedOnly b i f .ctl (by simp)
  have hi : (s.modifyLine b i f).items = s.items := s.modifyLine_changedOnly b i f .items (by simp)
  intro bd' hbd l' hl
  rw [hm, hi]
  unfold State.modifyLine at hbd
  rw [State.modifyBuild_bay] at hbd
  split at hbd
  · rename_i hc
    subst hc
    cases hs : s.bay c with
    | none => simp [hs] at hbd
    | some bd =>
      rw [hs, Option.map_some, Option.some.injEq] at hbd
      subst hbd
      obtain ⟨k, hk⟩ := List.mem_iff_getElem?.mp hl
      rw [List.getElem?_modify] at hk
      cases hg : bd.lines[k]? with
      | none => simp [hg] at hk
      | some l =>
        have hl0 := h bd hs l (List.mem_of_getElem? hg)
        rw [hg] at hk
        by_cases he : i = k
        · simp only [he, if_true, Option.map_eq_map, Option.map_some, Option.some.injEq] at hk
          subst hk
          rw [hr, hl0]
          exact (running_of_stock rfl rfl (hf l)).symm
        · simp only [he, if_false, Option.map_eq_map, Option.map_some, Option.some.injEq] at hk
          subst hk
          rw [hl0]
          exact (running_of_stock rfl rfl rfl).symm
  · exact h bd' hbd l' hl

/-! ## Trials and evaluations -/

/-- All that some substitute trials at now can do (R140 to R143): change what R142 and R143 change of lines, record the
trials, offer a DEMAND marker by a change check, set DEVIATION, and use up a free value. -/
def State.tried (s t : State) : Prop :=
  s.sameStock t ∧ (∀ b, s.waitsFollow b → t.waitsFollow b) ∧ s.li.marked t.li ∧ s.dev.withTrials s.clock t.dev
    ∧ s.port.onlyRaises t.port [.deviation] ∧ s.changedOnly t [.bays, .li, .dev, .port, .draws]

theorem State.tried_refl (s : State) : s.tried s :=
  ⟨s.sameStock_refl, fun _ h => h, .inl rfl, DeviationTable.withTrials_refl _ _, BenchPort.onlyRaises_refl _ _,
    s.changedOnly_refl _⟩

theorem State.tried_trans {s t u : State} (h : s.tried t) (k : t.tried u) : s.tried u := by
  obtain ⟨h1, h2, h3, h4, h5, h6⟩ := h
  obtain ⟨k1, k2, k3, k4, k5, k6⟩ := k
  have hc : t.clock = s.clock := h6 .clock (by simp)
  rw [hc] at k4
  exact ⟨State.sameStock_trans h1 k1, fun b hb => k2 b (h2 b hb), LineInterface.marked_trans h3 k3,
    DeviationTable.withTrials_trans h4 k4, BenchPort.onlyRaises_trans h5 k5, State.changedOnly_trans h6 k6⟩

theorem State.tried_foldl {α : Type} (f : State → α → State) (hf : ∀ (s : State) (a : α), s.tried (f s a)) :
    ∀ (xs : List α) (s : State), s.tried (xs.foldl f s)
  | [], s => s.tried_refl
  | x :: xs, s => State.tried_trans (hf s x) (State.tried_foldl f hf xs (f s x))

theorem State.tried_modifyLine (s : State) (b : BayNo) (i : Nat) (f : Line → Line)
    (hf : ∀ l, (f l).stock = l.stock) (hr : ∀ l, (f l).wait.runStart.isSome = l.wait.runStart.isSome) :
    s.tried (s.modifyLine b i f) := by
  have hc := s.modifyLine_changedOnly b i f
  have hli : (s.modifyLine b i f).li = s.li := hc .li (by simp)
  have hdev : (s.modifyLine b i f).dev = s.dev := hc .dev (by simp)
  have hport : (s.modifyLine b i f).port = s.port := hc .port (by simp)
  refine ⟨s.modifyLine_sameStock b i f hf, fun c h => s.modifyLine_waitsFollow b c i f hf hr h, .inl hli, ?_, ?_,
    State.changedOnly_mono hc (by simp)⟩
  · rw [hdev]; exact DeviationTable.withTrials_refl _ _
  · rw [hport]; exact BenchPort.onlyRaises_refl _ _

theorem State.tried_record (s : State) (k : DeviationKind) (h : k.isTrial = true) : s.tried (s.record k) :=
  ⟨fun _ => rfl, fun _ hb => hb, .inl rfl, DeviationTable.withTrials_add h, BenchPort.setFlag_onlyRaises _ _,
    State.changedOnly_mono (s.record_changedOnly k) (by simp)⟩

theorem State.tried_changeCheck (s : State) : s.tried s.changeCheck := by
  have hc := s.changeCheck_changedOnly
  have hb : s.changeCheck.bays = s.bays := hc .bays (by simp)
  have hm : s.changeCheck.ctl = s.ctl := hc .ctl (by simp)
  have hi : s.changeCheck.items = s.items := hc .items (by simp)
  have hdev : s.changeCheck.dev = s.dev := hc .dev (by simp)
  have hport : s.changeCheck.port = s.port := hc .port (by simp)
  refine ⟨fun b => ?_, fun b h => ?_, s.changeCheck_marked, ?_, ?_, State.changedOnly_mono hc (by simp)⟩
  · simp only [State.bay, hb]
  · intro bd hbd l hl
    rw [State.bay, hb] at hbd
    rw [hm, hi]
    exact h bd hbd l hl
  · rw [hdev]; exact DeviationTable.withTrials_refl _ _
  · rw [hport]; exact BenchPort.onlyRaises_refl _ _

/-- One trial does what `tried` says (R140 to R143). -/
theorem State.trial_tried (s : State) (b : BayNo) (i : Nat) : s.tried (s.trial b i) := by
  unfold State.trial
  split
  · exact s.tried_refl
  · split
    · exact s.tried_refl
    · split
      · rename_i bd _ _ l _ _ p _
        have h1 := s.tried_modifyLine b i (Line.switched s.clock p) (fun _ => rfl)
          (fun x => Wait.zero_isSome x.wait s.clock)
        have h2 := State.tried_record (s.modifyLine b i (Line.switched s.clock p))
          (.substituted b bd.orderRef i l.activeItem (l.itemAt p) l.remaining) rfl
        exact State.tried_trans (State.tried_trans h1 h2) (State.tried_changeCheck _)
      · have hm := s.tried_modifyLine b i Line.unswitched (fun _ => rfl) (fun _ => rfl)
        unfold State.noFit
        dsimp only
        split
        · exact hm
        · exact State.tried_trans hm (State.tried_record _ _ rfl)

/-- The trials that start at once do no more, whatever their order (R138, R148). -/
theorem State.trials_tried (s : State) (xs : List (BayNo × Nat)) : s.tried (s.trials xs) := by
  unfold State.trials
  split
  · exact s.tried_refl
  · exact s.trial_tried _ _
  · have hd : s.tried (s.setDraws (s.draws + 1)) :=
      ⟨fun _ => rfl, fun _ h => h, .inl rfl, DeviationTable.withTrials_refl _ _, BenchPort.onlyRaises_refl _ _,
        State.changedOnly_mono (s.setDraws_changedOnly _) (by simp)⟩
    exact State.tried_trans hd
      (State.tried_foldl _ (fun (t : State) (x : BayNo × Nat) => t.trial_tried x.1 x.2) _ _)

/-! ## The evaluation itself -/

@[simp] theorem evalLine_stock (mode : Mode) (items : List ItemRecord) (now : Nat) (bd : Build) (l : Line) :
    (evalLine mode items now bd l).stock = l.stock := rfl

theorem evalBuild_stock (mode : Mode) (items : List ItemRecord) (now : Nat) (bd : Build) :
    (evalBuild mode items now bd).stock = bd.stock := by
  simp [evalBuild, Build.stock, Function.comp_def]

/-- After the evaluation of a build each accumulator runs exactly while its condition holds (R48). -/
theorem evalBuild_follows (mode : Mode) (items : List ItemRecord) (now : Nat) (bd : Build) :
    ∀ l ∈ (evalBuild mode items now bd).lines,
      l.wait.runStart.isSome = running mode items (evalBuild mode items now bd) l := by
  intro l hl
  obtain ⟨l0, -, rfl⟩ := List.mem_map.mp hl
  rw [running_of_stock (bd := bd) (bd' := evalBuild mode items now bd) (l := l0) rfl rfl
    (evalLine_stock mode items now bd l0)]
  unfold evalLine
  by_cases h : running mode items bd l0 = true
  · simp [h]
  · simp [h]

/-- One bay's evaluation. -/
theorem State.evalBay_bay (s : State) (b c : BayNo) :
    (s.modifyBuild b (evalBuild s.ctl.mode s.items s.clock)).bay c
      = if c = b then (s.bay b).map (evalBuild s.ctl.mode s.items s.clock) else s.bay c :=
  s.modifyBuild_bay b c _

/-- The evaluation of some bays: each of them takes `evalBuild`, and no other bay changes. -/
theorem State.evalBays_bay (c : BayNo) : ∀ (bs : List BayNo) (s : State),
    (c ∉ bs → (s.evalBays bs).bay c = s.bay c)
      ∧ (s.bay c).map Build.stock = ((s.evalBays bs).bay c).map Build.stock
      ∧ ((c ∈ bs ∨ s.waitsFollow c) → (s.evalBays bs).waitsFollow c)
  | [], s => ⟨fun _ => rfl, rfl, fun h => h.elim (fun h => absurd h (by simp)) id⟩
  | b :: bs, s => by
    have hc := s.modifyBuild_changedOnly b (evalBuild s.ctl.mode s.items s.clock)
    have hm := hc .ctl (by simp)
    have hi := hc .items (by simp)
    have hbay := s.evalBay_bay b c
    obtain ⟨h1, h2, h3⟩ := State.evalBays_bay c bs (s.modifyBuild b (evalBuild s.ctl.mode s.items s.clock))
    have he : s.evalBays (b :: bs) = (s.modifyBuild b (evalBuild s.ctl.mode s.items s.clock)).evalBays bs := rfl
    rw [he]
    refine ⟨fun hn => ?_, ?_, fun h => h3 ?_⟩
    · rw [List.mem_cons, not_or] at hn
      rw [h1 hn.2, hbay, if_neg hn.1]
    · rw [← h2, hbay]
      split
      · rename_i hcb
        subst hcb
        cases s.bay c with
        | none => rfl
        | some bd => simp [evalBuild_stock]
      · rfl
    · by_cases hin : c ∈ bs
      · exact .inl hin
      · right
        intro bd hbd l hl
        rw [hbay] at hbd
        have hm' : (s.modifyBuild b (evalBuild s.ctl.mode s.items s.clock)).ctl = s.ctl := hm
        have hi' : (s.modifyBuild b (evalBuild s.ctl.mode s.items s.clock)).items = s.items := hi
        rw [hm', hi']
        split at hbd
        · cases hs : s.bay b with
          | none => simp [hs] at hbd
          | some bd0 =>
            rw [hs, Option.map_some, Option.some.injEq] at hbd
            subst hbd
            exact evalBuild_follows _ _ _ _ l hl
        · rename_i hne
          rcases h with h | h
          · exact absurd (List.mem_cons.mp h) (by simp [hne, hin])
          · exact h bd hbd l hl

/-- The evaluation of some bays with the trials it starts, in one statement (R48, R138): everything it can do. -/
theorem State.reevaluate_spec (s : State) (bs : List BayNo) :
    s.reevaluatedTo (s.reevaluate bs) ∧ s.li.marked (s.reevaluate bs).li
      ∧ ∀ c, (c ∈ bs ∨ s.waitsFollow c) → (s.reevaluate bs).waitsFollow c := by
  have hev := s.evalBays_changedOnly bs
  have hli : (s.evalBays bs).li = s.li := hev .li (by simp)
  have hdev : (s.evalBays bs).dev = s.dev := hev .dev (by simp)
  have hport : (s.evalBays bs).port = s.port := hev .port (by simp)
  have hclock : (s.evalBays bs).clock = s.clock := hev .clock (by simp)
  obtain ⟨t1, t2, t3, t4, t5, t6⟩ := (s.evalBays bs).trials_tried (bs.flatMap s.trialsIn)
  rw [hli] at t3
  rw [hdev, hclock] at t4
  rw [hport] at t5
  refine ⟨⟨fun b => (t1 b).trans (State.evalBays_bay b bs s).2.1.symm, LineInterface.marked_withMarker t3, t4, t5,
    s.reevaluate_changedOnly bs⟩, t3, fun c h => t2 c ((State.evalBays_bay c bs s).2.2 h)⟩

/-- A change of mode, in one statement (R165). -/
theorem State.changeMode_spec (s : State) (m : Mode) (bySetMode : Bool) :
    (s.changeMode m bySetMode).ctl = { s.ctl with mode := m } ∧ s.sameStock (s.changeMode m bySetMode)
      ∧ s.li.marked (s.changeMode m bySetMode).li ∧ s.dev.withTrials s.clock (s.changeMode m bySetMode).dev
      ∧ (∀ b, (s.changeMode m bySetMode).waitsFollow b)
      ∧ s.port.onlyRaises (s.changeMode m bySetMode).port [.deviation, .modeChanged] := by
  obtain ⟨⟨r1, -, r3, r4, r5⟩, rm, r6⟩ := (s.withMode m).reevaluate_spec allBays
  obtain ⟨c1, c2, c3, c4, c5, c6⟩ := ((s.withMode m).reevaluate allBays).tried_changeCheck
  have hall : ∀ b : BayNo, b ∈ allBays := by decide
  have hctl : (((s.withMode m).reevaluate allBays).changeCheck).ctl = { s.ctl with mode := m } :=
    (c6 .ctl (by simp)).trans (r5 .ctl (by simp))
  have hclock : ((s.withMode m).reevaluate allBays).clock = s.clock := r5 .clock (by simp)
  rw [hclock] at c4
  have hp : s.port.onlyRaises (((s.withMode m).reevaluate allBays).changeCheck).port [.deviation, .modeChanged] :=
    BenchPort.onlyRaises_mono (BenchPort.onlyRaises_trans r4 c5) (by simp)
  have hall' : (∀ b, (((s.withMode m).reevaluate allBays).changeCheck).waitsFollow b) :=
    fun b => c2 b (r6 b (.inl (hall b)))
  unfold State.changeMode
  dsimp only
  split
  · exact ⟨hctl, State.sameStock_trans r1 c1, LineInterface.marked_trans rm c3, DeviationTable.withTrials_trans r3 c4,
      hall', hp⟩
  · exact ⟨hctl, State.sameStock_trans r1 c1, LineInterface.marked_trans rm c3, DeviationTable.withTrials_trans r3 c4,
      hall', BenchPort.onlyRaises_trans hp
        (BenchPort.onlyRaises_mono (BenchPort.setFlag_onlyRaises _ .modeChanged) (by simp))⟩

end Sys2Proof.Machine
end

