-- ==== Sys2Proof/Laws/Words.lean ====
section
/-! SUPPORT. Lengths of the written forms, which the layouts of R183 to R186 rest on, and the reading back of cells. -/

namespace Sys2Proof.Machine

@[simp] theorem be_length : ∀ n v : Nat, (be n v).length = n
  | 0, _ => rfl
  | n + 1, v => by simp [be, be_length n v]

@[simp] theorem code16_length (c : BitVec 16) : (code16 c).length = 2 := be_length 2 _

@[simp] theorem entryBytes_length (e : DemandEntry) : (entryBytes e).length = 6 := by simp [entryBytes]

@[simp] theorem bitsOfByte_length (b : Byte) : (bitsOfByte b).length = 8 := rfl

@[simp] theorem bitsOfBytes_length (bs : List Byte) : (bitsOfBytes bs).length = 8 * bs.length := by
  induction bs with
  | nil => rfl
  | cons b bs ih =>
    have h : bitsOfBytes (b :: bs) = bitsOfByte b ++ bitsOfBytes bs := rfl
    rw [h, List.length_append, ih, bitsOfByte_length, List.length_cons]
    omega

@[simp] theorem bitsOfBytes_append (as bs : List Byte) :
    bitsOfBytes (as ++ bs) = bitsOfBytes as ++ bitsOfBytes bs := by simp [bitsOfBytes]

@[simp] theorem RawItem.bytes_length (r : RawItem) : r.bytes.length = 7 := by simp [RawItem.bytes]

@[simp] theorem LineParams.bytes_length (p : LineParams) : p.bytes.length = 10 := by simp [LineParams.bytes]

@[simp] theorem Settings.bytes_length (g : Settings) : g.bytes.length = 12 := by simp [Settings.bytes]

/-- The cells of some bits are decoded to those bits, and the levels after them on their own (R55, R68). -/
@[simp] theorem decodeCells_cellLevels (bits rest : List Bool) :
    decodeCells (cellLevels bits ++ rest) = bits ++ decodeCells rest := by
  induction bits with
  | nil => rfl
  | cons b bits ih =>
    have h : cellLevels (b :: bits) ++ rest = (!b) :: b :: (cellLevels bits ++ rest) := rfl
    rw [h, decodeCells, if_neg (by simp), ih, List.cons_append]

/-- A byte read back from its bits (R55). -/
theorem byteOfBits_bitsOfByte (b : Byte) :
    byteOfBits (b.getLsbD 7) (b.getLsbD 6) (b.getLsbD 5) (b.getLsbD 4) (b.getLsbD 3) (b.getLsbD 2) (b.getLsbD 1)
      (b.getLsbD 0) = b := by
  revert b; decide +kernel

end Sys2Proof.Machine
end

