-- ==== Sys2Proof/Tests/Slice0.lean ====
section
/-! SUPPORT. Tests: the ill-formed commands that `Instr.wellFormed` refuses, one or two small steps for each command with
results from the spec's worked examples and tables, and for each statement with hypotheses a state and operands that
meet them. -/

/- One thread: every worker thread reserves its whole stack under the memory limit. -/
set_option Elab.async false

namespace Sys2Proof.Tests

open Sys2Proof.Machine

/-! ## The states the tests start from -/

/-- The state a command leaves. -/
def after (c : Instr) (s : State) : State :=
  match exec c s with
  | .next t => t
  | .fault _ => s
  | .refused _ => s

/-- A request's bytes after its code. -/
def req (block : List Byte) : List Byte := requestBytes block

/-- The output of the reply held. -/
def output (s : State) : Option (List Byte) := s.port.reply.map (·.output)

/-- The status of the reply held. -/
def status (s : State) : Option Status := s.port.reply.map (·.status)

/-- The items of the worked example of 01_builds_lines_and_the_item_table.md. -/
def shop : List ItemRecord :=
  [⟨0x2B10, 1299, 750, false⟩, ⟨0x1A07, 450, 340, false⟩, ⟨0x3C21, 899, 200, false⟩, ⟨0x3C22, 549, 250, false⟩,
    ⟨0x3C23, 999, 420, false⟩, ⟨0x4D01, 675, 250, true⟩, ⟨0x4D04, 1150, 200, true⟩]

/-- Station 9 in this mode with default settings, the shop's items and this clock, RDRX idle and an idle station line
seen. -/
def station9 (mode : Mode) (clock : Nat) : State :=
  { State.reset with
    clock := clock
    ctl := { mode := mode, station := 9, settleExpiry := none }
    loader := { active := defaultSettings, outcome := .loaded, state := .idle, bus := .released }
    items := shop
    li := { LineInterface.stopped with idleSeen := decide (mode ≠ .loading) }
    totes := { ToteTracker.cleared with decoder := if mode = .loading then .stopped else .assembling [] } }

/-- Characters on RDRX without framing errors. -/
def chars (bytes : List Byte) : List ReaderChar := bytes.map fun b => { data := b, stop := true }

/-- The characters of these bytes, the last of them the byte `last`. -/
def reads (bytes : List Byte) (last : Byte) : Instr :=
  .tagRead ((chars bytes).map .character) { data := last, stop := true } false

/-- A line of an item with these units ordered, placed and pinned, its accumulator stopped at 0. -/
def line (item : ItemCode) (ordered placed pinned : Nat) : Line :=
  { primary := item, substitutes := [], position := 0, ordered := ordered, placed := placed, pinned := pinned,
    placedValue := placed * unitValue shop item, placedWeight := placed * unitWeight shop item,
    wait := { stored := 0, runStart := none }, exhausted := false, trialMark := false }

/-- A build of some lines in a state, with a distant deadline and wide limits. -/
def build (work : WorkState) (lines : List Line) : Build :=
  { work := work, held := false, orderRef := 0x00C40019, deadline := 1000000, deadlinePending := true, floor := 0,
    ceiling := 65535, lines := lines, total := totalOrdered lines, chillExpiry := none, deadlineReported := false,
    lapse := false }

/-- Tote 0x0A40 of the worked example in 06_tote_tracking_and_the_share_decision.md. -/
def figTote : ToteEntry :=
  { tote := 0x0A40, serial := 5, item := 0x1A07, remaining := 5, uncertain := false, touched := 0 }

/-- A lane entry of that tote with these allocations. -/
def figEntry (state : LaneState) (as : List Allocation) : LaneEntry :=
  { tote := 0x0A40, serial := 5, item := 0x1A07, drawn := (as.map (·.granted)).sum, allocations := as, state := state,
    divertTime := 1000, stale := false }

/-- Station 9 with one lane entry that names lines of bay 2. -/
def laneStation (state : LaneState) (as : List Allocation) (lines : List Line) : State :=
  let s := (station9 .active 2000).setBay 2 (some (build .gathering lines))
  (s.setLaneQueue [figEntry state as]).setTable [figTote]

/-- `s` with no idle line seen since its Line Interface started. -/
def unseen (s : State) : State := s.setLi { s.li with idleSeen := false }

/-- Station 9 with this outgoing queue and transmitter phase. -/
def sender (queue : List Notice) (phase : TxPhase) : State :=
  let s := station9 .active 5000
  s.setLi { s.li with queue := queue, phase := phase }

/-! ## Ill-formed commands -/

theorem test_illFormed_silence_low : (Instr.silenceExpiry 0).wellFormed = false := by decide
theorem test_illFormed_silence_high : (Instr.silenceExpiry 33).wellFormed = false := by decide
theorem test_illFormed_join_sender : (Instr.joinNotice 0 0 3 8 1).wellFormed = false := by decide
theorem test_illFormed_draw_sender : (Instr.drawNotice 33 0 1 1 1 1 1).wellFormed = false := by decide
theorem test_illFormed_tally_sender : (Instr.tallyNotice 33 0 1 1 1 1).wellFormed = false := by decide
theorem test_illFormed_demand_sender : (Instr.demandNotice 0 0 []).wellFormed = false := by decide
theorem test_illFormed_demand_entries :
    (Instr.demandNotice 7 0 (List.replicate 17 ⟨0, 0, 1, 1, 1⟩)).wellFormed = false := by decide
theorem test_illFormed_goodFrame :
    (Instr.badFrame (cellLevels (frameBits 7 0 (.join 3 8 1)))).wellFormed = false := by decide +kernel
theorem test_illFormed_badFrame_standingHigh : (Instr.badFrame [true, false]).wellFormed = false := by decide +kernel
theorem test_wellFormed_badFrame : (Instr.badFrame [false, true, false]).wellFormed = true := by decide +kernel
theorem test_illFormed_fetchCode : (Instr.unknownRequestCode 0x00 []).wellFormed = false := by decide
theorem test_illFormed_knownCode : (Instr.unknownRequestCode 0x45 []).wellFormed = false := by decide
theorem test_wellFormed_demand :
    (Instr.demandNotice 32 0 (List.replicate 16 ⟨0, 0, 1, 1, 1⟩)).wellFormed = true := by decide

/-! ## Reset, start-up and the clock -/

/-- R160: strap value + 1, so 32 for five high straps. -/
theorem test_hardReset_station : (after (.hardReset 31) (station9 .active 7)).ctl.station = 32 := by decide

/-- R161: while RESET is low DIVERT is low. -/
theorem test_resetLow_pins :
    let s := station9 .active 7
    (after .resetLow (s.setLane { s.lane with divert := true })).lane.divert = false := by decide

/-- R159: the clock holds at 4,294,967,295. -/
theorem test_clockTick_holds : (after .clockTick (station9 .active 4294967295)).clock = 4294967295 := by decide
theorem test_clockTick_rises : (after .clockTick (station9 .active 40000)).clock = 40001 := by decide

/-- R162, R186: a record of the default settings, its sum worked by hand. -/
theorem test_settingsLoad_defaults :
    let t := after (.settingsLoad #v[0x48, 0x42, 1, 3, 12, 2, 4, 0x01, 0x2C, 0x02, 0x58, 4, 0x00, 0xB4, 16, 0xEF])
      State.reset
    (t.loader.active, t.loader.outcome, t.ctl.settleExpiry) = (defaultSettings, .loaded, some 40) := by decide +kernel

/-- R163: lane capacity 9 is clamped to 4 on its own. -/
theorem test_settingsLoad_clamps :
    let t := after (.settingsLoad #v[0x48, 0x42, 1, 9, 12, 2, 4, 0x01, 0x2C, 0x02, 0x58, 4, 0x00, 0xB4, 16, 0xF5])
      State.reset
    (t.loader.active.laneCapacity, t.loader.outcome, t.port.cause) = (4, .clamped, .clamped) := by decide +kernel

/-- R163: a load that times out leaves the defaults, and SETTINGS_NOTE says so. -/
theorem test_settingsLoadTimeout :
    let t := after .settingsLoadTimeout State.reset
    (t.loader.outcome, t.port.cause, t.ctl.mode, EventFlag.settingsNote.isSet t.port)
      = (.defaulted, .defaulted, .settling, true) := by decide +kernel

/-- R164, R165: SETTLING to ACTIVE sets MODE_CHANGED. -/
theorem test_settleExpiry :
    let s := station9 .settling 40
    let t := after .settleExpiry (s.setCtl { s.ctl with settleExpiry := some 40 })
    (t.ctl.mode, EventFlag.modeChanged.isSet t.port) = (.active, true) := by decide +kernel

/-! ## Reports and events -/

/-- R177, R185: part 0x0240, revision 1, station 9, 8 bays, 64 pool records, 256 items, LOADING. -/
theorem test_readIdentity :
    output (after (.readIdentity (req [])) (station9 .loading 0))
      = some [0x02, 0x40, 1, 9, 8, 64, 0x01, 0x00, 0] := by decide +kernel

/-- R177: the clock in bytes 3 to 6, the free pool records at offset 14 and the item count after them. -/
theorem test_readStatus :
    ((output (after (.readStatus (req [])) (station9 .active 72000))).map fun o => (o.drop 3).take 4)
      = some [0x00, 0x01, 0x19, 0x40] := by decide +kernel

theorem test_readClock :
    output (after (.readClock (req [])) (station9 .active 72000)) = some [0x00, 0x01, 0x19, 0x40] := by decide +kernel

/-- R182: the flags are returned and cleared, and ATTN falls. -/
theorem test_readEvents :
    let s := (station9 .active 7).setPort { BenchPort.cleared with enables := 8 }
    let t := after (.readEvents (req [])) (s.setFlag .laneStale)
    ((s.setFlag .laneStale).port.attn, output t, t.port.flags, t.port.attn)
      = (true, some [0x00, 0x08, 0, 0x00, 0x08], 0, false) := by decide +kernel

/-- R181: enabling a flag already set raises ATTN at once, and a bit above 12 is BAD_ARG. -/
theorem test_setEventEnables :
    (after (.setEventEnables (req [0x00, 0x08])) ((station9 .active 7).setFlag .laneStale)).port.attn = true := by
  decide +kernel
theorem test_setEventEnables_badArg :
    status (after (.setEventEnables (req [0x20, 0x00])) (station9 .active 7)) = some .badArg := by decide +kernel

/-- R178, R185: an EMPTY bay by number and state alone. -/
theorem test_readBay_empty : output (after (.readBay (req [6])) (station9 .active 7)) = some [6, 0] := by decide +kernel

/-- R134, R185: one INBOUND entry with one allocation. -/
theorem test_readLane :
    output (after (.readLane true (req [])) (laneStation .inbound [⟨2, 1, 3⟩] []))
      = some [3, 1, 0, 0, 1, 0x0A, 0x40, 5, 0x1A, 0x07, 3, 0, 0, 0, 0x03, 0xE8, 0, 0, 0, 0, 0, 1, 2, 1, 3] := by
  decide +kernel

/-- R179: the own number's place is OWN with zeros. -/
theorem test_readPeers_own :
    ((output (after (.readPeers (req [0])) (station9 .active 7))).map fun o => (o.drop 93).take 11)
      = some [3, 0, 0, 0, 0, 0, 0, 0, 0, 0, 0] := by decide +kernel

/-- R71: the counters are returned and cleared. -/
theorem test_readLineCounters :
    let s := (station9 .active 7).countLine fun c => { c with crcBad := 258 }
    let t := after (.readLineCounters (req [])) s
    (output t, t.li.counters.crcBad) = (some [0, 0, 0, 0, 0, 0, 1, 2, 0, 0, 0, 0, 0, 0, 0, 0, 0], 0) := by
  decide +kernel

/-- R171: the settle time and the silence limit follow the twelve bytes of settings. -/
theorem test_readSettings :
    output (after (.readSettings (req [])) (station9 .active 7))
      = some [3, 12, 2, 4, 0x01, 0x2C, 0x02, 0x58, 4, 0x00, 0xB4, 16, 0, 4, 0, 8, 0, 0] := by decide +kernel

/-- R173: a fetch sends status, length and output, then zeros, once. -/
theorem test_fetch :
    let t := after (.fetchTransaction 6) (after (.readBay (req [6])) (station9 .active 7))
    (t.port.miso, t.port.reply, t.port.ready) = ([0x5A, 0x01, 0, 2, 6, 0, 0], none, false) := by decide +kernel

/-- R175: a code that is none of the 24. -/
theorem test_unknownRequestCode :
    status (after (.unknownRequestCode 0x06 [0]) (station9 .active 7)) = some .badRequest := by decide +kernel

/-! ## Items and builds -/

/-- The worked example of 01: 254 records, four more, TABLE_FULL with a taken count of 3. -/
theorem test_loadItems_tableFull :
    let s := (station9 .active 7).setItems
      (⟨0x3C22, 549, 250, false⟩ :: (List.range 253).map fun k => ⟨BitVec.ofNat 16 (k + 1), 1, 1, false⟩)
    let t := after (.loadItems (req (loadItemsBlock
      [⟨0x4D01, 675, 250, 1⟩, ⟨0x3C22, 500, 250, 0⟩, ⟨0x4D02, 1, 1, 0⟩, ⟨0x4D03, 1, 1, 0⟩]))) s
    (t.port.reply, t.items.length) = (some ⟨.tableFull, [3]⟩, 256) := by decide +kernel

/-- R3, R4: a weight of 0 fails check 1, and no record is taken. -/
theorem test_loadItems_badArg :
    (after (.loadItems (req (loadItemsBlock [⟨0x4D01, 675, 0, 1⟩]))) (station9 .active 7)).port.reply
      = some ⟨.badArg, [0]⟩ := by decide +kernel

/-- R5: an unused record goes; R2: one that a line names stays. -/
theorem test_removeItem :
    (after (.removeItem (req [0x2B, 0x10])) (station9 .active 7)).items.length = 6 := by decide +kernel
theorem test_removeItem_inUse :
    status (after (.removeItem (req [0x2B, 0x10]))
      ((station9 .active 7).setBay 0 (some (build .gathering [line 0x2B10 1 0 0])))) = some .inUse := by decide +kernel

/-- The four line entries of the worked example of 01. -/
def exampleLines : List LineParams :=
  [⟨0x2B10, 1, 0, 0, 0, 0⟩, ⟨0x1A07, 2, 0, 0, 0, 0⟩, ⟨0x3C21, 2, 2, 0x3C22, 0x3C23, 0⟩, ⟨0x4D01, 1, 1, 0x4D04, 0, 0⟩]

/-- Its Open Build. -/
def exampleBuild : BuildParams := ⟨3, 0x00A1B2C3, 1800, 4500, 2500, exampleLines⟩

/-- Its station: 50 pool records in use. -/
def exampleStation : State :=
  [0, 1, 2, 4].foldl (fun s b => s.setBay b (some (build .gathering (List.replicate 12 (line 0x1A07 1 0 0)))))
    ((station9 .active 72000).setBay 5 (some (build .gathering (List.replicate 2 (line 0x1A07 1 0 0)))))

/-- The worked example of 01: bay 3, deadline 90,000, T 6, V 4672, W 2080, 10 free records. -/
theorem test_openBuild_example :
    output (after (.openBuild (req exampleBuild.bytes)) exampleStation)
      = some [3, 0x00, 0x01, 0x5F, 0x90, 0, 6, 0, 0, 0x12, 0x40, 0, 0, 0x08, 0x20, 10] := by decide +kernel

/-- R14, check 8: a floor above V = 4672. -/
theorem test_openBuild_infeasible :
    status (after (.openBuild (req { exampleBuild with floor := 4673 }.bytes)) exampleStation) = some .infeasible := by
  decide +kernel

/-- Log 38: an Open Build without lines is BAY_STATE in a bay in use, by R14's order. -/
theorem test_openBuild_noLines_bayState :
    status (after (.openBuild (req { exampleBuild with bay := 4, lines := [] }.bytes)) exampleStation)
      = some .bayState := by decide +kernel

/-- R20: pinned units refuse the cancel. -/
theorem test_cancelBuild :
    (after (.cancelBuild (req [3])) ((station9 .active 7).setBay 3 (some (build .gathering [line 0x1A07 2 1 0])))).bay 3
      = none := by decide +kernel
theorem test_cancelBuild_pinned :
    status (after (.cancelBuild (req [3]))
      ((station9 .active 7).setBay 3 (some (build .gathering [line 0x1A07 2 1 1])))) = some .pinned := by decide +kernel

/-- The build of the sealing example of 01. -/
def sealedBuild : Build :=
  { build .ready
      [line 0x2B10 1 1 0, line 0x1A07 2 2 0,
        { line 0x3C21 2 2 0 with
          substitutes := [0x3C22, 0x3C23], position := 2, placedValue := 1898, placedWeight := 620 },
        { line 0x4D01 1 1 0 with substitutes := [0x4D04] }] with
    orderRef := 0x00A1B2C3 }

/-- The worked example of 01: placed value 4772 and placed weight 2300, line 2 with a substitute active. -/
theorem test_sealBuild_example :
    output (after (.sealBuild (req [3])) ((station9 .active 7).setBay 3 (some sealedBuild)))
      = some [0x00, 0xA1, 0xB2, 0xC3, 4, 0, 0x2B, 0x10, 1, 0, 1, 0x1A, 0x07, 2, 0, 2, 0x3C, 0x23, 2, 1, 3, 0x4D, 0x01,
        1, 0, 0, 0, 0x12, 0xA4, 0, 0, 0x08, 0xFC] := by decide +kernel

/-- The bays of the mask example of 02. -/
def maskStation : State :=
  (((station9 .active 50000).setBay 1 (some (build .gathering [line 0x1A07 1 0 0]))).setBay 2
    (some { build .chilling [line 0x4D01 2 1 0] with held := true, lapse := true, chillExpiry := some 40000 })).setBay 3
    (some (build .ready [line 0x1A07 1 1 0]))

/-- The mask example's station with bay 3 HELD in READY. -/
def heldReadyStation : State :=
  maskStation.setBay 3 (some { build .ready [line 0x1A07 1 1 0] with held := true })

/-- The worked example of 02: the reply names bays 1 and 3. -/
theorem test_holdBays_example :
    output (after (.holdBays (req [0x0F])) maskStation) = some [0x0A] := by decide +kernel

/-- R35: the lapsed window restarts at 50,400 + 6000, and the lapse flag clears. -/
theorem test_releaseBays_example :
    ((after (.releaseBays (req [0x06])) (maskStation.setClock 50400)).bay 2).map (fun bd => (bd.chillExpiry, bd.lapse))
      = some (some 56400, false) := by decide +kernel

/-! ## The bench lane's requests -/

/-- Bay 6 of the lapse example of 02 at 102,900: HELD from CHILLING, one salmon pinned and at the bench. -/
def salmonStation : State :=
  let s := (station9 .active 102900).setBay 6
    (some { build .chilling [line 0x1A07 1 1 0, line 0x4D04 2 0 1] with held := true })
  (s.setLaneQueue
    [{ figEntry (.atBench 102500) [⟨6, 1, 1⟩] with tote := 0x0388, item := 0x4D04, divertTime := 102300 }]).setTable
    [{ figTote with tote := 0x0388, item := 0x4D04 }]

/-- R30: the window opens at 102,900 + 6000 although the bay is held. -/
theorem test_confirmPick_example :
    let t := after (.confirmPick (req [1, 1])) salmonStation
    ((t.bay 6).map (·.chillExpiry), t.lane.merge, t.lane.queue) = (some (some 108900), true, []) := by decide +kernel

/-- R130: a short pick settles the tote at 0 and records SHORT_TOTE. -/
theorem test_confirmPick_short :
    let t := after (.confirmPick (req [1, 1])) (laneStation (.atBench 1900) [⟨2, 0, 2⟩] [line 0x1A07 2 0 2])
    (t.totes.table.map (·.remaining), t.dev.records.map (·.kind)) = ([0], [.shortTote 0x0A40 0x1A07 2 1]) := by
  decide +kernel

/-- Log 31: at the clock's largest value a short pick's line, its wait set to 0, starts again and is tried in that step. -/
theorem test_confirmPick_triesAtTheClocksEnd :
    let s := (laneStation (.atBench 1900) [⟨2, 0, 2⟩] [line 0x1A07 2 0 2]).setClock 4294967295
    let t := after (.confirmPick (req [1, 1])) s
    t.dev.records.map (·.kind)
      = [.shortTote 0x0A40 0x1A07 2 1, .substituteExhausted 2 0x00C40019 0] := by decide +kernel

/-- R107, R132: the draw goes back to the count, and the reply carries it. -/
theorem test_returnTote :
    let t := after (.returnTote (req [])) (laneStation (.atBench 1900) [⟨2, 0, 2⟩] [line 0x1A07 2 0 2])
    (output t, (t.bay 2).map fun bd => bd.lines.map (·.pinned)) = (some [0x0A, 0x40, 5, 7], some [0]) := by
  decide +kernel

/-! ## The deviation table, the modes and the settings -/

/-- The table of the paging example of 09. -/
def pagedTable : DeviationTable :=
  { records := (List.range 64).map fun k => { number := 67 + k, time := 5, kind := .chillLapse 6 1 }
    sinceClear := 130, lastClear := 0 }

/-- The worked example of 09: start 8, count 8 gives 75 to 82. -/
theorem test_readDeviations_numbers :
    (pagedTable.page 8 8).map (·.number) = [75, 76, 77, 78, 79, 80, 81, 82] := by decide +kernel
theorem test_readDeviations_badArg :
    status (after (.readDeviations (req [0, 9])) ((station9 .active 7).setDev pagedTable)) = some .badArg := by
  decide +kernel

/-- R156: the figures before the clear, and the new time of last clear. -/
theorem test_clearDeviations :
    output (after (.clearDeviations (req [])) ((station9 .active 72000).setDev pagedTable))
      = some [64, 0, 130, 0x00, 0x01, 0x19, 0x40] := by decide +kernel

/-- R166, R167: CLOSING with every bay EMPTY and the lane empty becomes QUIET at once. -/
theorem test_setMode_closing :
    let t := after (.setMode (req [3])) (station9 .active 7)
    (output t, EventFlag.modeChanged.isSet t.port) = (some [2, 4], true) := by decide +kernel

/-- R170: the two accesses of a Write Settings. -/
theorem test_writeSettings :
    (after (.writeSettings (req defaultSettings.bytes)) (station9 .active 7)).loader.bus
      = .writing ⟨0x50, 0x00, [0x48, 0x42, 1, 3, 12, 2, 4, 0x01]⟩
          (some ⟨0x50, 0x08, [0x2C, 0x02, 0x58, 4, 0x00, 0xB4, 16, 0xEF]⟩) := by decide +kernel

/-- Station 9 writing its settings, on the last access. -/
def writing : State :=
  let s := station9 .active 7
  s.setLoader { s.loader with state := .writing, bus := .writing ⟨0x50, 8, []⟩ none }

theorem test_writeAccessEnd :
    let t := after .writeAccessEnd writing
    (t.loader.state, EventFlag.settingsWritten.isSet t.port) = (.idle, true) := by decide +kernel
theorem test_writeAccessTimeout :
    let t := after .writeAccessTimeout writing
    (t.loader.state, EventFlag.settingsFailed.isSet t.port) = (.idle, true) := by decide +kernel

/-- R169: the item table is kept and the bays emptied. -/
theorem test_restart :
    let t := after (.restart 4 (req [])) maskStation
    (t.ctl.mode, t.ctl.station, t.items.length, t.bay 1) = (.loading, 5, 7, none) := by decide +kernel

/-! ## The reader and the share decision -/

/-- R96: the check byte of the spec's example. -/
theorem test_tag_checkByte :
    (Tag.mk 0x0312 0x1A07 0x11 5).bytes = [0xA5, 0x03, 0x12, 0x1A, 0x07, 0x11, 0x05, 0x18] := by decide +kernel

/-- The station of the worked example of 06.5, with an own line that ranks first and one that ranks last. -/
def shareStation : State :=
  let s := ((station9 .active 2000).setBay 2
    (some { build .gathering [line 0x2B10 1 0 0,
      { line 0x1A07 3 0 0 with wait := { stored := 1000, runStart := some 2000 } }] with deadline := 0 })).setBay 5
    (some (build .gathering [line 0x1A07 2 0 0]))
  (s.setHeard [⟨7, ⟨0, 3, 0x1A07, 2, 36000⟩, 0⟩, ⟨12, ⟨3, 0, 0x1A07, 4, 30000⟩, 0⟩]).setTable [figTote]

/-- The worked example of 06.5: the tote is diverted with 3 units for bay 2 line 1, and 2 remain. -/
theorem test_tagRead_example :
    let t := after (reads [0xA5, 0x0A, 0x40, 0x1A, 0x07, 5, 5] 0x57) shareStation
    (t.lane.queue.map (·.allocations), t.lane.divert, t.totes.table.map (·.remaining), t.li.queue.map (·.payload))
      = ([[⟨2, 1, 3⟩]], true, [2], [some (.draw 0x0A40 5 0x1A07 3 2), none]) := by decide +kernel

/-- A candidate of the worked example of 06.6. -/
def candidate (rank : Nat) (units : Nat) (own : Option (BayNo × Nat)) : Candidate :=
  { key := { score := 50000 - rank, station := 9, bay := 0, line := 0 }, units := units, own := own }

/-- The worked example of 06.6: eight own grants, and the draw limit of 12 cuts the last two away. -/
theorem test_share_example :
    cutToLimit 12 (walk [candidate 1 2 (some (0, 0)), candidate 2 2 (some (0, 1)), candidate 3 2 (some (1, 0)),
        candidate 4 3 none, candidate 5 2 (some (1, 1)), candidate 6 2 (some (2, 0)), candidate 7 2 (some (3, 0)),
        candidate 8 2 (some (4, 0)), candidate 9 2 (some (6, 0)), candidate 10 2 (some (7, 0)), candidate 11 4 none,
        candidate 12 1 (some (7, 1))] 30 0)
      = [⟨0, 0, 2⟩, ⟨0, 1, 2⟩, ⟨1, 0, 2⟩, ⟨1, 1, 2⟩, ⟨2, 0, 2⟩, ⟨3, 0, 2⟩] := by decide +kernel

/-- R97: a check byte one off is malformed. -/
theorem test_tagRead_malformed :
    (after (reads [0xA5, 0x0A, 0x40, 0x1A, 0x07, 5, 5] 0x56) shareStation).totes.malformed = 1 := by decide +kernel

theorem test_shortReaderFrame : (after .shortReaderFrame (station9 .active 7)).totes.malformed = 1 := by decide

/-- R95: after SETTLING begins, bytes before the first idle belong to no frame, and the frame after it is taken. -/
theorem test_tagRead_waitsForIdle :
    let s := after .settingsLoadTimeout State.reset
    let bytes := (chars [0xA5, 0x0A, 0x40, 0x1A, 0x07, 5, 5]).map ReaderEvent.character
    let t := after (.tagRead (bytes ++ bytes ++ [.idle] ++ bytes) ⟨0x57, true⟩ false) s
    (t.totes.good, t.totes.malformed, t.totes.decoder) = (1, 0, .taken false) := by decide +kernel

/-- R95: an overlong tail of two bytes is one malformed frame. -/
theorem test_shortReaderFrame_tail :
    let t := after .shortReaderFrame (after (reads [0xA5, 0x0A, 0x40, 0x1A, 0x07, 5, 5, 0x57, 1] 2) shareStation)
    (t.totes.good, t.totes.malformed) = (1, 1) := by decide +kernel

/-- R95: a Restart abandons the frame in assembly without counting it. -/
theorem test_restart_abandonsFrame :
    let t := after (.restart 0 (req [])) (after (reads [0xA5] 0x0A) (station9 .active 7))
    (t.totes.decoder, t.totes.malformed) = (.stopped, 0) := by decide +kernel

/-! ## The bench lane's events -/

/-- R121: 10 ms of low level is enough, and the entry arrives now. -/
theorem test_arrival :
    (after (.arrival 10000) (laneStation .inbound [⟨2, 0, 1⟩] [])).lane.queue.map (·.state) = [.atBench 2000] := by
  decide +kernel

/-- R122: with no INBOUND entry the arrival is unexpected. -/
theorem test_arrival_unexpected : (after (.arrival 10000) (station9 .active 7)).lane.unexpected = 1 := by decide +kernel

theorem test_divertPulseEnd :
    let s := station9 .active 7
    (after .divertPulseEnd (s.setLane { s.lane with divert := true, merge := true })).lane
      = { s.lane with divert := false, merge := true } := by decide
theorem test_mergePulseEnd :
    let s := station9 .active 7
    (after .mergePulseEnd (s.setLane { s.lane with divert := true, merge := true })).lane
      = { s.lane with divert := true, merge := false } := by decide

/-- R126: diverted at 1000 with a limit of 4 s, so due from 1040; MERGE stays low. -/
theorem test_divertConfirmExpiry :
    let t := after (.divertConfirmExpiry 0x0A40) (laneStation .inbound [⟨2, 0, 2⟩] [line 0x1A07 2 0 2])
    (t.lane, t.totes.table.map (·.remaining), EventFlag.divertMissed.isSet t.port) = (Lane.cleared, [7], true) := by
  decide +kernel

/-- R133: at the bench from 200, stale from 200 + 1800. -/
theorem test_dwellExpiry :
    (after (.dwellExpiry 0x0A40) (laneStation (.atBench 200) [] [])).lane.queue.map (·.stale) = [true] := by
  decide +kernel

/-! ## The expiries of bays and lines -/

/-- The lapse example of 02 at 108,900. -/
theorem test_chillWindowExpiry :
    let s := (station9 .active 108900).setBay 6
      (some { build .chilling [line 0x1A07 1 1 0, line 0x4D04 2 1 0] with chillExpiry := some 108900 })
    let t := after (.chillWindowExpiry 6) s
    ((t.bay 6).map (fun bd => (bd.held, bd.lapse)), t.dev.records.map (·.kind))
      = (some (true, true), [.chillLapse 6 0x00C40019]) := by decide +kernel

/-- R37: a bay in READY reports no missed deadline. -/
theorem test_deadlineExpiry_ready :
    let s := (station9 .active 112000).setBay 6
      (some { build .ready [line 0x4D04 2 2 0] with deadline := 112000 })
    let t := after (.deadlineExpiry 6) s
    ((t.bay 6).map (fun bd => (bd.deadlinePending, bd.deadlineReported)), t.dev.records) = (some (false, false), []) := by
  decide +kernel

/-- The build of the examples of 08.6 and 08.7, with this weight ceiling, its third line at the limit. -/
def substStation (ceiling : Nat) : State :=
  (station9 .active 60000).setBay 1
    (some { build .gathering [line 0x2B10 1 1 0, line 0x1A07 2 0 0,
      { line 0x3C21 2 0 0 with
        substitutes := [0x3C22, 0x3C23], wait := { stored := 0, runStart := some 57000 } }] with
      floor := 3500, ceiling := ceiling })

/-- The worked example of 08.6: the praline box falls below the floor, the truffle tin fits. -/
theorem test_substitute_example :
    let t := after (.substituteWaitExpiry 1 2) (substStation 5000)
    ((t.bay 1).map (fun bd => bd.lines.map (·.position)), t.dev.records.map (·.kind))
      = (some [0, 0, 2], [.substituted 1 0x00C40019 2 0x3C21 0x3C23 2]) := by decide +kernel

/-- R35, R138: a line HELD with its wait at the limit is tried as it is released. -/
theorem test_releaseBays_tries :
    let s := (station9 .active 60000).setBay 1 (some { build .gathering [{ line 0x3C21 2 0 0 with
      substitutes := [0x3C22], wait := { stored := 3000, runStart := none } }] with held := true })
    ((after (.releaseBays (req [2])) s).bay 1).map (fun bd => bd.lines.map fun l => (l.position, l.wait))
      = some [(1, { stored := 0, runStart := some 60000 })] := by decide +kernel

/-- R159: a substitute wait expiry past the clock's largest value is taken there, 10 tenths after the run start. -/
theorem test_substitute_heldClock :
    let s := (station9 .active 4294967295).setBay 1 (some (build .gathering [{ line 0x3C21 2 0 0 with
      substitutes := [0x3C22], wait := { stored := 0, runStart := some 4294967285 } }]))
    ((after (.substituteWaitExpiry 1 0) s).bay 1).map (fun bd => bd.lines.map (·.position)) = some [1] := by
  decide +kernel

/-- The worked example of 08.7: with a ceiling of 2100 none fits. -/
theorem test_substitute_exhausted :
    let t := after (.substituteWaitExpiry 1 2) (substStation 2100)
    ((t.bay 1).map (fun bd => bd.lines.map fun l => (l.position, l.exhausted, l.trialMark)), t.dev.records.map (·.kind))
      = (some [(0, false, false), (0, false, false), (0, true, true)], [.substituteExhausted 1 0x00C40019 2]) := by
  decide +kernel

/-! ## Scores and ranking -/

/-- The worked cases of 03.5. -/
theorem test_score_case1 : urgency 3000 0 10 4 900 = 21051 := by decide
theorem test_score_case2 : urgency 36000 0 6 6 4000 = 16857 := by decide
theorem test_score_case5 : urgency 9 0 4 3 2549 = 53120 := by decide

/-- The worked example of 03.7. -/
theorem test_ranking_example :
    (rankSort id [⟨36000, 9, 5, 2⟩, ⟨36000, 12, 3, 0⟩, ⟨41000, 9, 2, 1⟩, ⟨36000, 7, 0, 3⟩, ⟨36000, 9, 5, 0⟩,
        ⟨30000, 4, 6, 1⟩]).map (fun k => (k.station, k.bay, k.line))
      = [(9, 2, 1), (7, 0, 3), (9, 5, 0), (9, 5, 2), (12, 3, 0), (4, 6, 1)] := by decide +kernel

/-! ## The station line -/

/-- R58: the CRC of the nine bytes 0x31 to 0x39. -/
theorem test_crc_check :
    crc16 [0x31, 0x32, 0x33, 0x34, 0x35, 0x36, 0x37, 0x38, 0x39] = 0x29B1 := by decide +kernel

/-- R63, R64: the first attempt takes the sequence number, and the counter advances. -/
theorem test_attempt :
    let t := after (.attempt true) (sender [Notice.fresh (some (.join 3 8 1))] .waiting)
    (t.li.queue, t.li.seq, t.li.lde) = ([⟨some (.join 3 8 1), some 0, 1⟩], 1, true) := by decide +kernel

theorem test_attempt_busyLine :
    after (.attempt false) (sender [Notice.fresh none] .waiting) = sender [Notice.fresh none] .waiting := by
  decide +kernel

/-- R65, R88: a completed DEMAND's entries become the last-sent list. -/
theorem test_noticeComplete :
    let t := after .noticeComplete (sender [⟨some (.demand [⟨2, 1, 0x1A07, 3, 9⟩]), some 0, 1⟩] (.sending []))
    (t.li.queue, t.li.counters.sent, t.peers.lastSent) = ([], 1, [⟨2, 1, 0x1A07, 3⟩]) := by decide +kernel

theorem test_collision :
    (after .collision (sender [⟨some (.join 3 8 1), some 0, 1⟩] (.sending []))).li.phase = .jamming := by decide +kernel

/-- R67: the eighth attempt is the last. -/
theorem test_jamEnd_drops :
    let t := after .jamEnd (sender [⟨some (.join 3 8 1), some 0, 8⟩] .jamming)
    (t.li.queue, t.li.counters.dropped, EventFlag.noticeLost.isSet t.port) = ([], 1, true) := by decide +kernel

theorem test_backoffEnd :
    (after .backoffEnd (sender [⟨some (.join 3 8 1), some 0, 2⟩] (.backoff 3))).li.phase = .waiting := by decide +kernel

/-- R68: a wrong start pattern is a fragment, and a flipped payload bit is CRC-bad. -/
theorem test_badFrame_fragment :
    (after (.badFrame (cellLevels (List.replicate 60 true))) (station9 .active 7)).li.counters.fragments = 1 := by
  decide +kernel
theorem test_badFrame_crc :
    (after (.badFrame (cellLevels ((frameBits 7 0 (.join 3 8 1)).modify 55 (!·)))) (station9 .active 7)).li.counters.crcBad
      = 1 := by decide +kernel

/-- R55, R68: 1 is low then high and 0 high then low; a cell without a middle change ends the bits. -/
theorem test_decodeCells : decodeCells [false, true, true, false, false, false, false, true] = [true, false] := by decide

/-- Station 7 as station 9 holds it in the example of 05.6. -/
def peer7 (state : PeerState) (last : Option Byte) (heard : Option Nat) (clock : Nat) : State :=
  (station9 .active clock).setPeer 7 ⟨state, last, heard, 3, 0⟩

/-- R74: before an idle line has been seen since the start a JOIN is not taken, and the idle line that ends it is seen. -/
theorem test_joinNotice_beforeIdle :
    after (.joinNotice 7 0 3 8 1) (unseen (station9 .settling 40)) = station9 .settling 40 := by decide +kernel

/-- R74: the JOIN of the start is sent at the first idle line. -/
theorem test_attempt_firstIdle :
    let t := after (.attempt true) (unseen (sender [Notice.fresh (some (.join 3 8 1))] .waiting))
    (t.li.idleSeen, t.li.lde, t.li.queue.map (·.attempts)) = (true, true, [1]) := by decide +kernel

/-- The worked example of 05.6 at 40,000: a JOIN offers a marker and makes the peer PRESENT. -/
theorem test_joinNotice :
    let t := after (.joinNotice 7 0 3 8 1) (station9 .active 40000)
    ((t.peer 7).state, (t.peer 7).lastSequence, t.li.queue) = (.present, some 0, [Notice.fresh none]) := by
  decide +kernel

/-- The worked example of 05.6 at 40,050: sequence 3 was expected. -/
theorem test_demandNotice_gap :
    let t := after (.demandNotice 7 4 [⟨0, 0, 0x1A07, 2, 500⟩])
      ((peer7 .present (some 2) (some 40030) 40050).setTable [figTote])
    ((t.peer 7).gaps, t.li.counters.gaps, t.totes.table.map (·.uncertain), t.entriesStored 7) = (1, 1, [true], 1) := by
  decide +kernel

/-- The table of the example of 05.7. -/
def fullHeard : List HeardEntry :=
  [⟨30, ⟨1, 4, 1, 1, 1200⟩, 0⟩, ⟨2, ⟨0, 0, 1, 1, 1500⟩, 0⟩]
    ++ ((List.range 5).map fun k => ⟨14, ⟨0, BitVec.ofNat 4 k, 1, 1, 7000⟩, 0⟩)
    ++ ((List.range 249).map fun k => ⟨3 + k / 100, ⟨BitVec.ofNat 4 (k / 12), BitVec.ofNat 4 k, 1, 1, 4000⟩, 0⟩)

/-- The worked example of 05.7: six entries of station 14 stored, one discarded, station 30's removed. -/
theorem test_demandNotice_fullTable :
    let t := after (.demandNotice 14 0 [⟨5, 0, 1, 1, 20000⟩, ⟨5, 1, 1, 1, 18000⟩, ⟨5, 2, 1, 1, 9000⟩,
      ⟨5, 3, 1, 1, 5000⟩, ⟨5, 4, 1, 1, 3000⟩, ⟨5, 5, 1, 1, 1300⟩, ⟨5, 6, 1, 1, 900⟩])
      ((station9 .active 7).setHeard fullHeard)
    (t.entriesStored 14, t.entriesStored 30, t.peers.overflow, t.peers.heard.length) = (6, 0, 1, 256) := by
  decide +kernel

/-- Station 9 of the two-draws example of 06. -/
def drawStation : State :=
  (station9 .active 7).setTable [{ figTote with tote := 0x0312, serial := 17, remaining := 10 }]

/-- The worked example of 06: 10 − 3 = 7 for the same fill. -/
theorem test_drawNotice_same :
    (after (.drawNotice 4 0 0x0312 17 0x1A07 3 7) drawStation).totes.table.map (·.remaining) = [7] := by decide +kernel

/-- The worked example of 06: an older fill is ignored. -/
theorem test_drawNotice_older :
    (after (.drawNotice 20 0 0x0312 16 0x1A07 3 7) drawStation).totes.table.map (·.remaining) = [10] := by
  decide +kernel

/-- The worked example of 06: a tally of a newer fill sets the entry. -/
theorem test_tallyNotice :
    (after (.tallyNotice 20 0 0x0312 18 0x1A07 5) drawStation).totes.table.map (fun e => (e.serial, e.remaining))
      = [(18, 5)] := by decide +kernel

/-- R70: a notice bearing the own number mutes the station. -/
theorem test_addressClash :
    let t := after (.tallyNotice 9 0 0x0312 18 0x1A07 5) (sender [Notice.fresh none] .waiting)
    (t.ctl.mode, t.li.queue, t.li.counters.dropped, EventFlag.stationClash.isSet t.port) = (.muted, [], 1, true) := by
  decide +kernel

/-- The worked example of 05.6 at 40,130: last heard at 40,050, silence limit 80 tenths. -/
theorem test_silenceExpiry :
    (after (.silenceExpiry 7) (peer7 .present (some 4) (some 40050) 40130)).peer 7
      = ⟨.silent, some 4, some 40050, 3, 0⟩ := by decide +kernel
theorem test_silenceExpiry_early :
    after (.silenceExpiry 7) (peer7 .present (some 4) (some 40050) 40129) = peer7 .present (some 4) (some 40050) 40129 := by
  decide +kernel

/-- Station 9 with a refresh expiry at its clock. -/
def refreshStation (clock : Nat) : State :=
  let s := station9 .active clock
  s.setPeers { s.peers with refreshExpiry := some clock }

/-- R89: the next refresh is one interval after this one, and a marker is offered. -/
theorem test_refreshExpiry :
    let t := after .refreshExpiry (refreshStation 500)
    (t.peers.refreshExpiry, t.li.queue) = (some 520, [Notice.fresh none]) := by decide +kernel

/-- R89: none follows one at the clock's largest value. -/
theorem test_refreshExpiry_last :
    (after .refreshExpiry (refreshStation 4294967295)).peers.refreshExpiry = none := by decide +kernel

/-! ## The queue of commands -/

/-- The command at the front is taken, and the rest wait. -/
theorem test_step_takesTheFront :
    step ((station9 .active 7).setPending [.clockTick, .mergePulseEnd])
      = exec .clockTick ((station9 .active 7).setPending [.mergePulseEnd]) := rfl

/-! ## Witnesses: states and operands that meet the hypotheses of each statement together

`test_witness_<Name>` is for `Obligations.<Name>`; a statement without hypotheses needs none. -/

/-- Station 9 listens. -/
theorem up (mode : Mode) (clock : Nat) : (station9 mode clock).listens := ⟨rfl, rfl⟩

/-- A short block arrives whole. -/
theorem arrives (block : List Byte) (h : block.length ≤ 250) : carries (req block) block := carries_requestBytes h

/-- A state with RESET low. -/
def held : State := (station9 .active 7).setResetLow true

/-- A state in which the port is HANDLING. -/
def handling : State := (station9 .active 7).setPort { BenchPort.cleared with state := .handling }

theorem test_witness_StepRunsTheFrontCommand : State.reset.pending = [] := rfl

theorem test_witness_ResetHeldLowDrivesThePinsAndTakesNoEvent :
    held.resetLow = true ∧ (∀ straps, Instr.clockTick ≠ .hardReset straps) ∧ Instr.clockTick ≠ .resetLow :=
  ⟨rfl, by simp, by decide⟩

theorem test_witness_RestartKeepsAndClears :
    (station9 .muted 7).listens ∧ (station9 .muted 7).ctl.mode ≠ .loading ∧ carries (req []) [] :=
  ⟨up _ _, by decide, arrives _ (by decide)⟩

theorem test_witness_ClockRisesByTicksAndNeverFalls :
    (station9 .active 4294967295).resetLow = false ∧ (∀ straps, Instr.mergePulseEnd ≠ .hardReset straps)
      ∧ Instr.mergePulseEnd ≠ .clockTick ∧ (station9 .active 4294967295).clock ≤ 4294967295
      ∧ exec .mergePulseEnd (station9 .active 4294967295)
        = .next (after .mergePulseEnd (station9 .active 4294967295)) :=
  ⟨rfl, by simp, by decide, by decide, rfl⟩

theorem test_witness_SettingsLoadFormsTheSettingsAndSettles :
    State.reset.resetLow = false ∧ State.reset.ctl.mode = .loading ∧ State.reset.loader.state = .loading :=
  ⟨rfl, rfl, rfl⟩

/-- Station 9 in SETTLING until 40. -/
def settling (clock : Nat) : State :=
  (station9 .settling clock).setCtl { mode := .settling, station := 9, settleExpiry := some 40 }

theorem test_witness_SettleExpiryMakesTheStationActive :
    ((settling 39).resetLow = false ∧ (settling 39).ctl.mode = .settling ∧ (settling 39).ctl.settleExpiry = some 40
        ∧ (settling 39).clock < 40)
      ∧ (settling 40).resetLow = false ∧ (settling 40).ctl.mode = .settling ∧ (settling 40).ctl.settleExpiry = some 40
      ∧ 40 ≤ (settling 40).clock := by decide

/-- Each check of R175: no length byte, a length of 251, a missing byte, a wrong length, and LOADING. -/
theorem test_witness_RequestChecksRefuseWithoutEffect :
    (station9 .loading 0).listens ∧ (station9 .active 0).listens
      ∧ (∃ row ∈ requestRows 0 false, row.refusal .active [] = some .badRequest
        ∧ row.refusal .active (251 :: List.replicate 251 0) = some .badRequest
        ∧ row.refusal .active [1] = some .badRequest ∧ row.refusal .active [1, 0] = some .badRequest
        ∧ row.refusal .loading [0] = none)
      ∧ (∃ row ∈ requestRows 0 false, row.refusal .loading [0] = some .busy ∧ row.refusal .active [0] = none)
      ∧ (Instr.unknownRequestCode 0x46 []).wellFormed = true :=
  ⟨up _ _, up _ _, ⟨_, List.mem_cons_self, rfl, rfl, rfl, rfl, rfl⟩,
    ⟨_, List.mem_cons_of_mem _ (List.mem_cons_of_mem _ List.mem_cons_self), rfl, rfl⟩, by decide⟩

theorem test_witness_FetchSendsTheReplyOnceAndHandlingIgnores :
    (station9 .active 7).listens ∧ handling.resetLow = false ∧ handling.port.state = .handling
      ∧ (Instr.unknownRequestCode 0xFF []).wellFormed = true :=
  ⟨up _ _, rfl, rfl, by decide⟩

theorem test_witness_IdentityStatusAndClockReport :
    (station9 .active 7).listens ∧ carries (req []) [] ∧ (station9 .active 7).ctl.mode ≠ .loading :=
  ⟨up _ _, arrives _ (by decide), by decide⟩

/-- Both modes of Read Events, and masks 0x1FFF and 0x2000. -/
theorem test_witness_ReadEventsClearsAndEnablesFollowTheMask :
    (station9 .loading 7).listens ∧ (station9 .active 7).listens ∧ (station9 .loading 7).ctl.mode = .loading
      ∧ (station9 .active 7).ctl.mode ≠ .loading ∧ carries (req []) [] ∧ carries (req [0x1F, 0xFF]) [0x1F, 0xFF]
      ∧ carries (req [0x20, 0x00]) [0x20, 0x00] ∧ (∀ tx, Instr.clockTick ≠ .readEvents tx)
      ∧ (∀ straps tx, Instr.clockTick ≠ .restart straps tx) ∧ (∀ straps, Instr.clockTick ≠ .hardReset straps)
      ∧ EventFlag.modeChanged.isSet ((station9 .active 7).setFlag .modeChanged).port = true
      ∧ exec .clockTick ((station9 .active 7).setFlag .modeChanged)
        = .next (after .clockTick ((station9 .active 7).setFlag .modeChanged)) :=
  ⟨up _ _, up _ _, rfl, by decide, arrives _ (by decide), arrives _ (by decide), arrives _ (by decide), by simp, by simp,
    by simp, by decide, rfl⟩

/-- A bay number of 8, EMPTY bay 7, and bay 1 with a build. -/
theorem test_witness_ReadBayReportsTheBuild :
    maskStation.listens ∧ maskStation.ctl.mode ≠ .loading ∧ carries (req [8]) [8] ∧ 8 ≤ (8 : Byte).toNat
      ∧ carries (req [7]) [7] ∧ (7 : BayNo).val = (7 : Byte).toNat ∧ maskStation.bay 7 = none
      ∧ carries (req [1]) [1] ∧ (1 : BayNo).val = (1 : Byte).toNat
      ∧ maskStation.bay 1 = some (build .gathering [line 0x1A07 1 0 0]) :=
  ⟨⟨rfl, rfl⟩, by decide, arrives _ (by decide), by decide, arrives _ (by decide), rfl, rfl, arrives _ (by decide), rfl,
    rfl⟩

theorem test_witness_ReadLaneReportsTheLane :
    (laneStation .inbound [⟨2, 1, 3⟩] []).listens ∧ (laneStation .inbound [⟨2, 1, 3⟩] []).ctl.mode ≠ .loading
      ∧ carries (req []) [] :=
  ⟨⟨rfl, rfl⟩, by decide, arrives _ (by decide)⟩

/-- A peer number of 33, one of 32, and 0 for the roster alone. -/
theorem test_witness_ReadPeersReportsTheRosterAndRankedEntries :
    (station9 .active 7).listens ∧ (station9 .active 7).ctl.mode ≠ .loading ∧ carries (req [33]) [33]
      ∧ 32 < (33 : Byte).toNat ∧ carries (req [32]) [32] ∧ (32 : Byte).toNat ≤ 32 ∧ carries (req [0]) [0]
      ∧ (0 : Byte).toNat ≤ 32 :=
  ⟨up _ _, by decide, arrives _ (by decide), by decide, arrives _ (by decide), by decide, arrives _ (by decide),
    by decide⟩

theorem test_witness_LineCountersClearOnReadAndSettingsReport :
    (station9 .loading 7).listens ∧ (station9 .active 7).listens ∧ carries (req []) []
      ∧ (station9 .loading 7).ctl.mode = .loading ∧ (station9 .active 7).ctl.mode ≠ .loading :=
  ⟨up _ _, up _ _, arrives _ (by decide), rfl, by decide⟩

/-- One record taken and one that fails, a single record that is taken, eight records, none and nine. -/
theorem test_witness_LoadItemsTakesRecordsUpToTheFirstFailure :
    let good : RawItem := ⟨0x5E10, 65535, 9999, 0⟩
    let bad : RawItem := ⟨0x5E10, 1, 10000, 0⟩
    let s := station9 .active 7
    s.listens ∧ s.ctl.mode ≠ .loading ∧ (∀ r ∈ [good] ++ [bad], r.fits)
      ∧ carries (req (loadItemsBlock ([good] ++ [bad]))) (loadItemsBlock ([good] ++ [bad]))
      ∧ (∀ k r, [good][k]? = some r → s.itemRefusal (([good].take k).foldl tableWith s.items) r = none)
      ∧ s.itemRefusal ([good].foldl tableWith s.items) bad = some .badArg
      ∧ carries (req (loadItemsBlock [good])) (loadItemsBlock [good])
      ∧ carries (req (loadItemsBlock (List.replicate 8 good))) (loadItemsBlock (List.replicate 8 good))
      ∧ carries (req (loadItemsBlock [])) (loadItemsBlock [])
      ∧ carries (req (loadItemsBlock (List.replicate 9 good))) (loadItemsBlock (List.replicate 9 good)) := by
  refine ⟨up _ _, by decide, by simp [RawItem.fits], arrives _ (by decide), fun k r h => ?_, by decide +kernel,
    arrives _ (by decide), arrives _ (by decide), arrives _ (by decide), arrives _ (by decide)⟩
  match k with
  | 0 =>
    obtain rfl : _ = r := by simpa using h
    decide +kernel
  | k + 1 => simp at h

theorem test_witness_RemoveItemTakesOutAnUnusedRecord :
    (station9 .loading 7).listens ∧ (station9 .active 7).listens ∧ carries (req (code16 0x2B10)) (code16 0x2B10)
      ∧ (station9 .loading 7).ctl.mode = .loading ∧ (station9 .active 7).ctl.mode ≠ .loading :=
  ⟨up _ _, up _ _, arrives _ (by decide), rfl, by decide⟩

theorem fits_exampleBuild : exampleBuild.fits := by
  simp [BuildParams.fits, exampleBuild, exampleLines]

/-- The checks of R14 on the Open Build of 01's worked example. -/
theorem accepts_exampleBuild : exampleStation.acceptsBuild exampleBuild := by
  refine ⟨by decide, by decide, by decide, by decide, ?_, ?_, ?_, by decide +kernel, by decide +kernel,
    by decide +kernel⟩
  · simp [exampleBuild, exampleLines, LineParams.substitutes]
  · have h : (exampleBuild.lines.all fun e =>
        (e.primary :: e.substitutes).all fun c => (findItem exampleStation.items c).isSome) = true := by decide +kernel
    simpa only [List.all_eq_true] using h
  · have h : (exampleBuild.lines.all fun e =>
        e.substitutes.all fun c => isChilled exampleStation.items c == isChilled exampleStation.items e.primary)
          = true := by decide +kernel
    simpa only [List.all_eq_true, beq_iff_eq] using h

/-- The worked example of 01; a deadline of 0 seconds and one limited to the clock's end are taken by the same
hypotheses. -/
theorem test_witness_OpenBuildSetsUpTheBuild :
    exampleStation.listens ∧ exampleStation.ctl.mode ≠ .loading ∧ exampleBuild.fits ∧ exampleStation.settingsInRange
      ∧ carries (req exampleBuild.bytes) exampleBuild.bytes ∧ (3 : BayNo).val = exampleBuild.bay
      ∧ exampleStation.bay 3 = none ∧ exampleStation.acceptsBuild exampleBuild :=
  ⟨⟨rfl, rfl⟩, by decide, fits_exampleBuild, by simp [State.settingsInRange]; decide, arrives _ (by decide), rfl, rfl,
    accepts_exampleBuild⟩

/-- What every clause of the refusals of Open Build asks, for changes to the worked example. -/
theorem fits_changed (bay floor ceiling : Nat) (h : bay < 256) (hf : floor < 16777216) (hc : ceiling < 65536) :
    { exampleBuild with bay := bay, floor := floor, ceiling := ceiling }.fits :=
  ⟨h, fits_exampleBuild.2.1, hf, hc, fits_exampleBuild.2.2.2.2⟩

/-- Each check of R14 failing at a boundary: bay 8, a bay in use, CLOSING, a ceiling of 0, an item not in the table, a
substitute of the other chill class, a pool with 3 free records, a floor of V + 1 and a ceiling of W − 1; and a build of
no lines. -/
theorem test_witness_OpenBuildRefusesAtTheFirstFailingCheck :
    let p := exampleBuild
    let s := exampleStation
    let chillMixed : LineParams := ⟨0x2B10, 1, 1, 0x4D01, 0, 0⟩
    let crowded := s.setBay 7 (some (build .gathering (List.replicate 11 (line 0x1A07 1 0 0))))
    s.listens ∧ s.ctl.mode ≠ .loading ∧ crowded.listens ∧ p.fits
      ∧ { p with bay := 8 }.fits ∧ ¬ { p with bay := 8 }.bay ≤ 7
      ∧ ¬ (∀ b : BayNo, b.val = { p with bay := 4 }.bay → s.bay b = none)
      ∧ ¬ (s.withMode .closing).ctl.mode ≠ .closing
      ∧ { p with ceiling := 0 }.fits ∧ ¬ 1 ≤ { p with ceiling := 0 }.ceiling
      ∧ ¬ (∀ e ∈ p.lines, ∀ c ∈ e.primary :: e.substitutes, ∃ r ∈ (s.setItems []).items, r.code = c)
      ∧ ¬ (∀ c ∈ chillMixed.substitutes, isChilled s.items c = isChilled s.items chillMixed.primary)
      ∧ ¬ p.lines.length ≤ crowded.poolFree
      ∧ { p with floor := 4673 }.fits
      ∧ ¬ 4673 ≤ (p.lines.map fun e => e.ordered * unitValue s.items e.primary).sum
      ∧ { p with ceiling := 2079 }.fits
      ∧ ¬ (p.lines.map fun e => e.ordered * unitWeight s.items e.primary).sum ≤ 2079
      ∧ carries (req p.bytes) p.bytes
      ∧ { p with lines := [] }.fits ∧ ¬ 1 ≤ { p with lines := [] }.lines.length
      ∧ carries (req { p with lines := [] }.bytes) { p with lines := [] }.bytes := by
  refine ⟨⟨rfl, rfl⟩, by decide, ⟨rfl, rfl⟩, fits_exampleBuild, fits_changed 8 4500 2500 (by omega) (by omega) (by omega),
    by decide, fun h => ?_, by decide, fits_changed 3 4500 0 (by omega) (by omega) (by omega), by decide, fun h => ?_,
    fun h => ?_, by decide +kernel, fits_changed 3 4673 2500 (by omega) (by omega) (by omega), by decide +kernel,
    fits_changed 3 4500 2079 (by omega) (by omega) (by omega), by decide +kernel, arrives _ (by decide),
    by simp [BuildParams.fits, exampleBuild], by decide, arrives _ (by decide)⟩
  · exact absurd (h 4 rfl) (by decide +kernel)
  · obtain ⟨r, hr, -⟩ := h _ List.mem_cons_self _ List.mem_cons_self
    exact absurd hr (by simp)
  · exact absurd (h 0x4D01 List.mem_cons_self) (by decide +kernel)

/-- Bay 8, an EMPTY bay, a pinned line, an unpinned GATHERING bay, and a READY bay. -/
theorem test_witness_CancelAndSealReturnTheBayToEmpty :
    let pinned := build .gathering [line 0x1A07 2 1 1]
    let s := maskStation.setBay 5 (some pinned)
    s.listens ∧ s.ctl.mode ≠ .loading ∧ carries (req [8]) [8] ∧ 8 ≤ (8 : Byte).toNat
      ∧ carries (req [7]) [7] ∧ (7 : BayNo).val = (7 : Byte).toNat ∧ s.bay 7 = none
      ∧ carries (req [5]) [5] ∧ (5 : BayNo).val = (5 : Byte).toNat ∧ s.bay 5 = some pinned
      ∧ (∃ l ∈ pinned.lines, 0 < l.pinned) ∧ pinned.work ≠ .ready
      ∧ carries (req [3]) [3] ∧ (3 : BayNo).val = (3 : Byte).toNat
      ∧ s.bay 3 = some (build .ready [line 0x1A07 1 1 0]) ∧ (∀ l ∈ [line 0x1A07 1 1 0], l.pinned = 0)
      ∧ (build .ready [line 0x1A07 1 1 0]).work = .ready ∧ (build .ready [line 0x1A07 1 1 0]).held = false :=
  ⟨⟨rfl, rfl⟩, by decide, arrives _ (by decide), by decide, arrives _ (by decide), rfl, rfl, arrives _ (by decide), rfl,
    rfl, ⟨_, List.mem_cons_self, by decide⟩, by decide, arrives _ (by decide), rfl, rfl, by simp [line], rfl, rfl⟩

theorem test_witness_HoldBaysMovesTheNamedBaysToHeld :
    maskStation.listens ∧ maskStation.ctl.mode ≠ .loading ∧ carries (req [0x0F]) [0x0F] ∧ carries (req [0]) [0] :=
  ⟨⟨rfl, rfl⟩, by decide, arrives _ (by decide), arrives _ (by decide)⟩

/-- A mask that names no HELD bay, one that names bay 2, whose build does not enter READY, and bay 3 HELD in READY. -/
theorem test_witness_ReleaseBaysReturnsToTheResumeState :
    let moves (mask : Byte) (b : BayNo) : Bool := mask.getLsbD b.val && (maskStation.bay b).any fun bd => bd.held
    maskStation.listens ∧ maskStation.ctl.mode ≠ .loading ∧ carries (req [0x0B]) [0x0B]
      ∧ (∀ b, moves 0x0B b = false) ∧ carries (req [0x04]) [0x04] ∧ (∃ b, moves 0x04 b = true)
      ∧ heldReadyStation.listens ∧ heldReadyStation.ctl.mode ≠ .loading ∧ carries (req [0x08]) [0x08]
      ∧ ∃ bd, heldReadyStation.bay 3 = some bd ∧ bd.held = true ∧ (0x08 : Byte).getLsbD 3 = true ∧ bd.work = .ready :=
  ⟨⟨rfl, rfl⟩, by decide, arrives _ (by decide), by decide +kernel, arrives _ (by decide), ⟨2, by decide +kernel⟩,
    ⟨rfl, rfl⟩, by decide, arrives _ (by decide), _, rfl, rfl, by decide, rfl⟩

/-- An INBOUND entry alone, with counts 0 and 9; an AT_BENCH one with no count, and with a count one above the grant. -/
theorem test_witness_PickAndReturnRefuseWithoutEffect :
    let inbound := laneStation .inbound [⟨2, 0, 2⟩] [line 0x1A07 2 0 2]
    let s := laneStation (.atBench 1900) [⟨2, 0, 2⟩] [line 0x1A07 2 0 2]
    let e := figEntry (.atBench 1900) [⟨2, 0, 2⟩]
    inbound.listens ∧ inbound.ctl.mode ≠ .loading ∧ (∀ e ∈ inbound.lane.queue, e.state = .inbound)
      ∧ carries (req (9 :: List.replicate 9 1)) (9 :: List.replicate 9 1) ∧ (List.replicate 9 (1 : Byte)).length ≤ 249
      ∧ carries (req []) [] ∧ s.listens ∧ s.ctl.mode ≠ .loading ∧ s.headAtBench = some e
      ∧ carries (req [0]) [0] ∧ ([] : List Byte).length ≠ e.allocations.length
      ∧ carries (req [1, 3]) [1, 3]
      ∧ ∃ (k : Nat) (a : Allocation) (x : Byte), e.allocations[k]? = some a ∧ [(3 : Byte)][k]? = some x
        ∧ a.granted < x.toNat :=
  ⟨⟨rfl, rfl⟩, by decide, by decide +kernel, arrives _ (by decide), by decide, arrives _ (by decide), ⟨rfl, rfl⟩,
    by decide, rfl, arrives _ (by decide), by decide, arrives _ (by decide), 0, _, _, rfl, rfl, by decide⟩

/-- A whole pick of a HELD bay's salmon, and a short pick. -/
theorem test_witness_ConfirmPickPlacesAndEndsTheDeparture :
    let s := laneStation (.atBench 1900) [⟨2, 0, 2⟩] [line 0x1A07 2 0 2]
    let e := figEntry (.atBench 1900) [⟨2, 0, 2⟩]
    s.listens ∧ s.ctl.mode ≠ .loading ∧ carries (req [1, 2]) [1, 2] ∧ carries (req [1, 1]) [1, 1]
      ∧ s.headAtBench = some e ∧ [(2 : Byte)].length = e.allocations.length
      ∧ ∀ (k : Nat) (a : Allocation) (x : Byte), e.allocations[k]? = some a → [(2 : Byte)][k]? = some x →
        x.toNat ≤ a.granted := by
  refine ⟨⟨rfl, rfl⟩, by decide, arrives _ (by decide), arrives _ (by decide), rfl, rfl, fun k a x ha hx => ?_⟩
  match k with
  | 0 =>
    obtain rfl : _ = a := by simpa [figEntry] using ha
    obtain rfl : _ = x := by simpa using hx
    decide
  | k + 1 => simp at hx

theorem test_witness_ReturnToteRestoresAndEndsTheDeparture :
    let s := laneStation (.atBench 1900) [⟨2, 0, 2⟩] [line 0x1A07 2 0 2]
    let e := figEntry (.atBench 1900) [⟨2, 0, 2⟩]
    s.listens ∧ s.ctl.mode ≠ .loading ∧ carries (req []) [] ∧ s.headAtBench = some e
      ∧ s.toteEntry e.tote = some figTote :=
  ⟨⟨rfl, rfl⟩, by decide, arrives _ (by decide), rfl, rfl⟩

/-- A block of one byte, LOADING, counts 0, 9, 1 and 8, and a start index past the records. -/
theorem test_witness_ReadDeviationsReturnsAPage :
    (station9 .loading 7).listens ∧ ((station9 .active 7).setDev pagedTable).listens ∧ carries (req [0]) [0]
      ∧ [(0 : Byte)].length ≠ 2 ∧ carries (req [0, 1]) [0, 1] ∧ (station9 .loading 7).ctl.mode = .loading
      ∧ ((station9 .active 7).setDev pagedTable).ctl.mode ≠ .loading ∧ carries (req [0, 0]) [0, 0]
      ∧ (0 : Byte).toNat = 0 ∧ carries (req [0, 9]) [0, 9] ∧ 8 < (9 : Byte).toNat ∧ carries (req [64, 8]) [64, 8]
      ∧ 1 ≤ (8 : Byte).toNat ∧ (8 : Byte).toNat ≤ 8 :=
  ⟨up _ _, ⟨rfl, rfl⟩, arrives _ (by decide), by decide, arrives _ (by decide), rfl, by decide, arrives _ (by decide), rfl,
    arrives _ (by decide), by decide, arrives _ (by decide), by decide, by decide⟩

theorem test_witness_ClearDeviationsEmptiesTheTable :
    (station9 .loading 7).listens ∧ (station9 .active 7).listens ∧ carries (req [0]) [0] ∧ ([0] : List Byte) ≠ []
      ∧ carries (req []) [] ∧ (station9 .loading 7).ctl.mode = .loading ∧ (station9 .active 7).ctl.mode ≠ .loading :=
  ⟨up _ _, up _ _, arrives _ (by decide), by decide, arrives _ (by decide), rfl, by decide⟩

/-- Value 5, a MUTED station, the mode already in force, and QUIET from ACTIVE. -/
theorem test_witness_SetModeMovesAmongItsThreeModes :
    (station9 .active 7).listens ∧ (station9 .muted 7).listens ∧ (station9 .active 7).ctl.mode ≠ .loading
      ∧ carries (req [5]) [5] ∧ (5 : Byte) ∉ [2#8, 3#8, 4#8] ∧ carries (req [4]) [4]
      ∧ Mode.quiet ∈ [Mode.active, Mode.closing, Mode.quiet] ∧ Mode.quiet.code = 4
      ∧ (station9 .muted 7).ctl.mode ∉ [Mode.active, Mode.closing, Mode.quiet]
      ∧ (station9 .quiet 7).ctl.mode = .quiet
      ∧ (station9 .active 7).ctl.mode ∈ [Mode.active, Mode.closing, Mode.quiet]
      ∧ (station9 .active 7).ctl.mode ≠ .quiet :=
  ⟨up _ _, up _ _, by decide, arrives _ (by decide), by decide, arrives _ (by decide), by decide, rfl, by decide, rfl,
    by decide, by decide⟩

/-- Every field at its lower limit and at its upper, a field one outside, an idle loader and a writing one. -/
theorem test_witness_WriteSettingsWritesTheRecordInTwoAccesses :
    let low : Settings := ⟨1, 1, 1, 3, 30, 60, 1, 30, 1⟩
    let high : Settings := ⟨4, 24, 10, 10, 1800, 1800, 20, 600, 255⟩
    let out : Settings := ⟨5, 24, 10, 10, 1800, 1800, 20, 600, 255⟩
    low.inRange = true ∧ high.inRange = true ∧ (parseSettings out.bytes).inRange = false
      ∧ carries (req low.bytes) low.bytes ∧ carries (req high.bytes) high.bytes ∧ carries (req out.bytes) out.bytes
      ∧ (station9 .active 7).resetLow = false ∧ (station9 .active 7).port.state = .idle
      ∧ (station9 .active 7).ctl.mode ≠ .loading ∧ (station9 .active 7).loader.state = .idle
      ∧ writing.loader.state ≠ .idle ∧ writing.loader.bus = .writing ⟨0x50, 8, []⟩ none :=
  ⟨by decide, by decide, by decide +kernel, arrives _ (by decide), arrives _ (by decide), arrives _ (by decide), rfl, rfl,
    by decide, rfl, by decide, rfl⟩

/-- A state with this reader port decoder. -/
def withDecoder (d : ReaderDecoder) (s : State) : State := s.setDecoder d

/-- A decoder in each of its states, six and seven characters in assembly, an eighth that makes a good frame of a tote in
the lane, and one with a wrong check byte. -/
theorem test_witness_ReaderFramesAreCountedAndIgnored :
    let seven := chars [0xA5, 0x0A, 0x40, 0x1A, 0x07, 5, 5]
    let s := withDecoder (.assembling seven) (laneStation .inbound [⟨2, 0, 2⟩] [])
    let frame := (seven ++ chars [0x57]).map (·.data)
    s.resetLow = false ∧ (station9 .loading 7).totes.decoder = .stopped
      ∧ (withDecoder .waiting s).totes.decoder = .waiting ∧ (withDecoder (.taken true) s).totes.decoder = .taken true
      ∧ s.totes.decoder = .assembling seven ∧ (seven.take 6).length < 7 ∧ seven.length = 7
      ∧ (∀ c ∈ seven ++ chars [0x57], c.stop = true) ∧ frame.getD 0 0 = 0xA5
      ∧ frame.getD 7 0 = frame.getD 1 0 ^^^ frame.getD 2 0 ^^^ frame.getD 3 0 ^^^ frame.getD 4 0 ^^^ frame.getD 5 0
        ^^^ frame.getD 6 0
      ∧ (0x56 : Byte) ≠ frame.getD 7 0 ∧ (∃ e ∈ s.lane.queue, e.tote = frame.getD 1 0 ++ frame.getD 2 0)
      ∧ exec (reads [] 0x57) s = .next (after (reads [] 0x57) s) :=
  ⟨rfl, rfl, rfl, rfl, rfl, by decide, rfl, by decide, by decide, by decide +kernel, by decide,
    ⟨_, List.mem_cons_self, by decide⟩, rfl⟩

/-- The tag of the worked example of 06.5. -/
def figTag : Tag := ⟨0x0A40, 0x1A07, 5, 5⟩

/-- A pass in QUIET, and the divert of the worked example, with five of its characters in assembly. -/
theorem test_witness_GoodTagReadUpdatesTheToteAndMayDivert :
    let read := (shareStation.setTotes { shareStation.totes with good := 1 }).putEntry { figTote with touched := 2000 }
    let e : ToteEntry := { figTote with touched := 2000 }
    let five := chars [0xA5, 0x0A, 0x40, 0x1A, 0x07]
    shareStation.resetLow = false
      ∧ (withDecoder (.assembling five) shareStation).totes.decoder = .assembling five
      ∧ (five ++ chars [5, 5] ++ chars [0x57]).map (·.data) = figTag.bytes
      ∧ (∀ c ∈ five ++ chars [5, 5] ++ chars [0x57], c.stop = true)
      ∧ figTag.tote ≠ 0 ∧ figTag.item ≠ 0 ∧ (∀ l ∈ shareStation.lane.queue, l.tote ≠ figTag.tote)
      ∧ (shareStation.ctl.mode = .active ∨ shareStation.ctl.mode = .closing)
      ∧ shareStation.lane.queue.length < shareStation.loader.active.laneCapacity ∧ 0 < e.remaining
      ∧ ((read.share e).map (·.granted)).sum = 3 ∧ (read.offerDraw (e.drawPayload 3)).isSome = true
      ∧ ¬ ((shareStation.withMode .quiet).ctl.mode = .active ∨ (shareStation.withMode .quiet).ctl.mode = .closing) :=
  ⟨rfl, rfl, by decide +kernel, by decide, by decide, by decide, by decide, by decide, by decide, by decide,
    by decide +kernel, by decide +kernel, by decide⟩

/-- A full table of 128 totes, all touched at 0 but the first. -/
def fullTotes : List ToteEntry :=
  (List.range 128).map fun k => { figTote with tote := BitVec.ofNat 16 (k + 1), touched := if k = 0 then 9 else 0 }

/-- A tote the table holds, one more in a table of 127, and one more in a table of 128. -/
theorem test_witness_ToteTableMakesRoomByLastTouched :
    (∃ x ∈ fullTotes, x.tote = (5 : ToteId)) ∧ (∀ x ∈ fullTotes, x.tote ≠ (0x0A40 : ToteId))
      ∧ (fullTotes.drop 1).length < 128 ∧ (∀ x ∈ fullTotes.drop 1, x.tote ≠ (0x0A40 : ToteId))
      ∧ 128 ≤ fullTotes.length ∧ (∃ x ∈ fullTotes, (x.tote == (1 : ToteId)) = false) := by decide +kernel

/-- A low time of 9,999 µs, LOADING, an INBOUND entry behind an AT_BENCH one, none INBOUND, and a dwell due or not. -/
theorem test_witness_ArrivalsPulsesAndDwellDriveTheLane :
    let s := laneStation .inbound [] []
    let b := laneStation (.atBench 200) [] []
    s.resetLow = false ∧ 9999 < 10000 ∧ (station9 .loading 7).ctl.mode = .loading ∧ s.ctl.mode ≠ .loading
      ∧ s.lane.queue = [] ++ figEntry .inbound [] :: [] ∧ (figEntry .inbound []).state = .inbound
      ∧ (∀ x ∈ b.lane.queue, x.state ≠ .inbound)
      ∧ min (200 + b.loader.active.dwellLimit * 10) 4294967295 = b.clock
      ∧ (∃ e ∈ b.lane.queue, e.tote = 0x0A40 ∧ e.stale = false ∧ e.state = .atBench 200)
      ∧ (∀ e ∈ s.lane.queue, e.state = .inbound) :=
  ⟨rfl, by decide, rfl, by decide, rfl, rfl, by decide +kernel, by decide,
    ⟨_, List.mem_cons_self, rfl, rfl, rfl⟩, by decide +kernel⟩

/-- An entry diverted at 1000 with a limit of 4 s: not due at 1039, due at 1040. -/
theorem test_witness_MissedDivertIsRestoredAndRecorded :
    let s (clock : Nat) := (laneStation .inbound [⟨2, 0, 2⟩] [line 0x1A07 2 0 2]).setClock clock
    let e := figEntry .inbound [⟨2, 0, 2⟩]
    (s 1040).resetLow = false ∧ ((s 1040).lane.queue.map (·.tote)).Nodup ∧ e ∈ (s 1040).lane.queue
      ∧ e.tote = 0x0A40 ∧ e.state = .inbound
      ∧ min (e.divertTime + (s 1040).loader.active.confirmLimit * 10) 4294967295 = (s 1040).clock
      ∧ (s 1040).toteEntry 0x0A40 = some figTote
      ∧ (∀ x ∈ (s 1039).lane.queue, ¬ min (x.divertTime + (s 1039).loader.active.confirmLimit * 10) 4294967295
        ≤ (s 1039).clock) :=
  ⟨rfl, by decide, List.mem_cons_self, rfl, rfl, by decide, rfl, by decide⟩

/-- Windows due at 100 at 99 and 100, lapsed or not, in CHILLING and HELD; deadlines at 99 and 100 likewise. -/
theorem test_witness_ChillWindowAndDeadlineExpireOnce :
    let bd := { build .chilling [line 0x4D04 2 1 0] with chillExpiry := some 100, deadline := 100 }
    let s (clock : Nat) (bd : Build) := (station9 .active clock).setBay 6 (some bd)
    (s 99 bd).resetLow = false ∧ (s 99 bd).bay 6 = some bd ∧ bd.chillExpiry = some 100 ∧ (s 99 bd).clock < 100
      ∧ (s 100 bd).bay 6 = some bd ∧ bd.lapse = false ∧ 100 ≤ (s 100 bd).clock ∧ bd.held = false
      ∧ bd.work ≠ .gathering ∧ bd.deadlinePending = true ∧ bd.deadline ≤ (s 100 bd).clock
      ∧ (s 99 bd).clock < bd.deadline ∧ (s 100 { bd with held := true }).bay 6 = some { bd with held := true }
      ∧ { bd with held := true }.held = true :=
  ⟨rfl, rfl, rfl, by decide, rfl, rfl, by decide, rfl, by decide, rfl, by decide, by decide, rfl, rfl⟩

/-- The examples of 08.6 and 08.7, and the same line one tenth before its limit; a line that an evaluation tries at once,
and bays named once each. -/
theorem test_witness_SubstituteWaitTriesCandidatesInOrder :
    let l : Line := { line 0x3C21 2 0 0 with
      substitutes := [0x3C22, 0x3C23], wait := { stored := 0, runStart := some 57000 } }
    let bd : Build := { build .gathering [line 0x2B10 1 1 0, line 0x1A07 2 0 0, l] with floor := 3500, ceiling := 5000 }
    (substStation 5000).resetLow = false ∧ (substStation 5000).bay 1 = some bd ∧ bd.lines[(2 : Fin 12).val]? = some l
      ∧ (2 : Fin 12).val = 2 ∧ l.wait.runStart = some 57000 ∧ l.trialMark = false ∧ 57000 ≤ (substStation 5000).clock
      ∧ (substStation 5000).loader.active.substituteWait * 10 = l.wait.stored + ((substStation 5000).clock - 57000)
      ∧ 59999 < min (57000 + ((substStation 5000).loader.active.substituteWait * 10 - l.wait.stored)) 4294967295
      ∧ allBays.Nodup
      ∧ startsTrial .active shop 3000 60000 bd { l with wait := { stored := 3000, runStart := none } } = true
      ∧ fits shop bd 2 1 = false ∧ fits shop bd 2 2 = true
      ∧ fits shop { bd with ceiling := 2100 } 2 1 = false ∧ fits shop { bd with ceiling := 2100 } 2 2 = false :=
  ⟨rfl, rfl, rfl, rfl, rfl, rfl, by decide, by decide, by decide, by decide, by decide +kernel, by decide +kernel,
    by decide +kernel, by decide +kernel, by decide +kernel⟩

/-- A marker at the head of a queue of twelve, a queue of twelve without one, and one of eleven. -/
theorem test_witness_OffersJoinTheQueueAsItsRulesSay :
    let join := Notice.fresh (some (.join 3 8 1))
    let q (front : Notice) (n : Nat) := (sender (front :: List.replicate n join) .waiting).li.queue
    12 ≤ (q (Notice.fresh none) 11).length ∧ (∃ n ∈ q (Notice.fresh none) 11, n.payload.isNone = true)
      ∧ 12 ≤ (q join 11).length ∧ ¬ (∃ n ∈ q join 11, n.payload.isNone = true) ∧ ¬ 12 ≤ (q join 10).length
      ∧ (station9 .muted 7).ctl.mode = .muted ∧ (station9 .active 7).ctl.mode ≠ .muted
      ∧ (station9 .active 7).ctl.mode ≠ .loading
      ∧ (∃ x ∈ [(⟨2, 1, 0x1A07, 3⟩ : Wanted)], x ∉ (station9 .active 7).freshSet) := by decide +kernel

/-- A busy line, a MUTED station, an empty queue, a first attempt with a payload and with a marker, and a later attempt. -/
theorem test_witness_AttemptSendsTheHeadNotice :
    let first := sender [Notice.fresh (some (.join 3 8 1))] .waiting
    let marker := sender [Notice.fresh none] .waiting
    let again := sender [⟨some (.join 3 8 1), some 0, 7⟩] .waiting
    first.resetLow = false ∧ (sender [] .waiting).li.queue = [] ∧ (station9 .muted 7).ctl.mode = .muted
      ∧ first.ctl.mode ≠ .loading
      ∧ first.ctl.mode ≠ .muted ∧ first.li.phase = .waiting
      ∧ first.li.queue = Notice.fresh (some (.join 3 8 1)) :: [] ∧ (Notice.fresh (some (.join 3 8 1))).attempts = 0
      ∧ marker.li.queue = Notice.fresh none :: [] ∧ (Notice.fresh none).payload = none
      ∧ again.li.queue = ⟨some (.join 3 8 1), some 0, 7⟩ :: [] ∧ 1 ≤ 7 := by decide

/-- A frame being sent, jams after the seventh and the eighth attempt, and a backoff. -/
theorem test_witness_TransmissionCompletesOrBacksOffOrDrops :
    let n (k : Nat) : Notice := ⟨some (.join 3 8 1), some 0, k⟩
    (sender [n 1] (.sending [])).resetLow = false ∧ (sender [n 1] (.sending [])).li.queue = n 1 :: []
      ∧ (sender [n 1] (.sending [])).li.phase = .sending [] ∧ (sender [n 7] .jamming).li.queue = n 7 :: []
      ∧ (sender [n 7] .jamming).li.phase = .jamming ∧ (n 7).attempts < 8 ∧ 8 ≤ (n 8).attempts
      ∧ (sender [n 8] .jamming).li.queue = n 8 :: [] ∧ (sender [n 2] (.backoff 3)).li.phase = .backoff 3 := by decide

/-- Sixty high bits fail check 1; a JOIN with a flipped bit check 2; a JOIN from station 33 check 3; a JOIN before an
idle line has been seen. -/
theorem test_witness_BadFramesAreClassifiedAndCounted :
    (station9 .active 7).resetLow = false ∧ (station9 .active 7).ctl.mode ≠ .loading
      ∧ (station9 .active 7).li.lde = false ∧ (station9 .active 7).li.idleSeen = true
      ∧ bringsFrame (.joinNotice 7 0 3 8 1) ∧ (unseen (station9 .settling 7)).li.idleSeen = false
      ∧ (unseen (station9 .settling 7)).li.lde = false ∧ (unseen (station9 .settling 7)).ctl.mode ≠ .loading
      ∧ [true].length < 2 ∧ [true, true, false] = true :: true :: [false]
      ∧ ((List.replicate 60 true).take 16 ≠ bitsOfBytes [0xC3#8, 0x5A#8])
      ∧ classify ((frameBits 7 0 (.join 3 8 1)).modify 55 (!·)) = .crcBad
      ∧ (frameBits 7 0 (.join 3 8 1)).take 16 = bitsOfBytes [0xC3#8, 0x5A#8]
      ∧ classify (frameBits 33 0 (.join 3 8 1)) = .malformed ∧ (station9 .loading 7).ctl.mode = .loading :=
  ⟨rfl, by decide, rfl, rfl, .inr (.inl ⟨_, _, _, _, _, rfl⟩), rfl, rfl, by decide, by decide, rfl, by decide +kernel,
    by decide +kernel, by decide +kernel, by decide +kernel, rfl⟩

theorem test_witness_GoodNoticeUpdatesTheRoster : 1 ≤ 32 ∧ 32 ≤ 32 ∧ 1 ≤ 1 := by decide

/-- Senders 1 and 32 at station 9, sixteen entries, and tables of 255 and 256. -/
theorem test_witness_JoinAndDemandReplaceWhatWasHeard :
    (station9 .active 7).resetLow = false ∧ (station9 .active 7).ctl.mode ≠ .loading
      ∧ (station9 .active 7).li.lde = false ∧ (station9 .active 7).li.idleSeen = true ∧ 1 ≤ (1 : Byte).toNat ∧ (32 : Byte).toNat ≤ 32
      ∧ (1 : Byte).toNat ≠ (station9 .active 7).ctl.station ∧ (32 : Byte).toNat ≠ (station9 .active 7).ctl.station
      ∧ (List.replicate 16 (⟨0, 0, 1, 1, 1⟩ : DemandEntry)).length ≤ 16
      ∧ ((station9 .active 7).setHeard (fullHeard.take 255)).peers.heard.length < 256
      ∧ 256 ≤ ((station9 .active 7).setHeard fullHeard).peers.heard.length := by decide +kernel

/-- A tote not held, and for a tote held at serial 17 the serials 17, 18, 144, 145 and 16; item 0x0000 too. -/
theorem test_witness_DrawAndTallySetTheToteCount :
    let e : ToteEntry := { figTote with tote := 0x0312, serial := 17, remaining := 10 }
    let u := (drawStation.countLine LineCounters.incGood).rosterUpdate 4 false 0
    let d (serial : Serial) : Nat := (serial.toNat + 256 - e.serial.toNat) % 256
    drawStation.resetLow = false ∧ drawStation.ctl.mode ≠ .loading ∧ drawStation.li.lde = false
      ∧ drawStation.li.idleSeen = true
      ∧ (4 : Byte).toNat ≠ drawStation.ctl.station ∧ u.toteEntry 0x0312 = some e ∧ u.toteEntry 0x0313 = none
      ∧ d 17 = 0 ∧ d 18 = 1 ∧ d 144 = 127 ∧ d 145 = 128 ∧ d 16 = 255 := by decide +kernel

theorem test_witness_AddressClashMutesTheStation :
    (station9 .active 7).resetLow = false ∧ (station9 .active 7).ctl.mode ≠ .loading
      ∧ (station9 .active 7).li.lde = false ∧ (station9 .active 7).li.idleSeen = true ∧ (9 : Byte).toNat = (station9 .active 7).ctl.station
      ∧ (Instr.joinNotice 9 0 3 8 1).wellFormed = true ∧ (Instr.demandNotice 9 0 []).wellFormed = true
      ∧ (Instr.drawNotice 9 0 1 1 1 1 1).wellFormed = true ∧ (Instr.tallyNotice 9 0 1 1 1 1).wellFormed = true := by
  decide

/-- Station 7 PRESENT, due at 40,130 and not at 40,129; a SILENT one; and a refresh expiry at, before and after now. -/
theorem test_witness_SilenceAndRefreshExpire :
    let s (clock : Nat) := peer7 .present (some 4) (some 40050) clock
    (s 40130).resetLow = false ∧ ((s 40130).peer 7).state = .present ∧ ((s 40130).peer 7).lastHeard = some 40050
      ∧ min (40050 + (s 40130).loader.active.silenceMultiplier * (s 40130).loader.active.refresh * 10) 4294967295
        = (s 40130).clock
      ∧ (s 40129).clock < 40130
      ∧ ((peer7 .silent (some 4) (some 40050) 50000).peer 7).state ≠ .present
      ∧ (refreshStation 4294967295).peers.refreshExpiry = some 4294967295
      ∧ ((refreshStation 500).setClock 499).clock < 500 ∧ (refreshStation 500).peers.refreshExpiry = some 500
      ∧ (station9 .active 7).peers.refreshExpiry = none := by decide +kernel

/-- The largest score's build: 288 units ordered, one to place, at its deadline; and the smallest score's. -/
theorem test_witness_UrgencyScoreStaysInItsRange :
    let lines := List.replicate 12 (line 0x1A07 24 24 0)
    let last := lines.set 0 (line 0x1A07 24 23 0)
    let bd := { build .gathering last with deadline := 0 }
    bd.deadline ≤ 0 + 655350 ∧ 1 = (bd.lines.map fun x => x.ordered - x.placed).sum ∧ bd.total = 288
      ∧ (bd.lines.map fun x => x.ordered - x.placed).sum ≤ bd.total := by decide +kernel

/-- Two entries with different keys in two orders. -/
theorem test_witness_RankingIsOneOrder :
    let x : HeardEntry := ⟨7, ⟨0, 3, 1, 2, 36000⟩, 0⟩
    let y : HeardEntry := ⟨12, ⟨3, 0, 1, 4, 36000⟩, 0⟩
    [x, y].Perm [y, x] ∧ ([x, y].map HeardEntry.key).Nodup
      ∧ ranksAbove ⟨3, 1, 1, 1⟩ ⟨2, 1, 1, 1⟩ = true ∧ ranksAbove ⟨2, 1, 1, 1⟩ ⟨2, 1, 1, 2⟩ = true :=
  ⟨List.Perm.swap _ _ _, by decide, by decide, by decide⟩

/-- A DEMAND of sixteen entries from station 32 with seven loose bits and then a cell without a middle change after
it. -/
theorem test_witness_NoticeFramesReadBackAsSent :
    goodSender 1 = true ∧ goodSender 32 = true
      ∧ (Payload.demand (List.replicate 16 ⟨0, 0, 1, 1, 1⟩)).wellFormed = true
      ∧ [true, false, true, true, true, true, false].length < 8 ∧ [true, true] = true :: true :: [] := by decide

theorem test_witness_BlocksAndRecordsReadBackAsWritten :
    exampleBuild.fits ∧ (∀ r ∈ [(⟨0x4D01, 65535, 9999, 1⟩ : RawItem)], r.fits) ∧ defaultSettings.inRange = true
      ∧ figTag.tote ≠ 0 ∧ figTag.item ≠ 0 :=
  ⟨fits_exampleBuild, by simp [RawItem.fits], by decide, by decide, by decide⟩

/-! ### Witnesses of the invariants: a station with a build, a pinned line and a tote in the lane -/

/-- The station the invariants' witnesses use, with a command that waits. -/
def invariantStation : State :=
  (laneStation (.atBench 1900) [⟨2, 0, 2⟩] [line 0x1A07 2 0 2]).setPending [.clockTick]

theorem invariantStation_step : step invariantStation = .next (after .clockTick (invariantStation.setPending [])) := rfl

/-- Its one build. -/
theorem invariantStation_bay (b : BayNo) :
    invariantStation.bay b = if b = 2 then some (build .gathering [line 0x1A07 2 0 2]) else none := by
  fin_cases b <;> rfl

theorem invariantStation_linesOf (b : BayNo) :
    invariantStation.linesOf b = if b = 2 then [line 0x1A07 2 0 2] else [] := by
  fin_cases b <;> rfl

theorem test_witness_StepKeepsAttentionReadyAndDeviations :
    invariantStation.attnFollows ∧ invariantStation.readyFollows ∧ invariantStation.deviationsBounded
      ∧ invariantStation.deviationsNumbered
      ∧ step invariantStation = .next (after .clockTick (invariantStation.setPending [])) := by
  refine ⟨?_, rfl, by simp [State.deviationsBounded]; decide, ?_, rfl⟩
  · unfold State.attnFollows
    decide +kernel
  · intro _ k d h
    have h' : ([] : List Deviation)[k]? = some d := h
    simp at h'

theorem test_witness_StepKeepsTheLineInterfaceSound :
    let s := (sender [⟨some (.join 3 8 1), some 0, 7⟩] (.backoff 3)).setPending [.backoffEnd]
    s.lineSound ∧ step s = .next (after .backoffEnd (s.setPending [])) := by
  refine ⟨⟨⟨by decide, by decide, by decide, by decide⟩, ⟨rfl, rfl, _, _, rfl, by decide, by decide⟩, by decide,
    by decide, by decide⟩,
    rfl⟩

theorem test_witness_StepKeepsTheTablesSound :
    invariantStation.itemsSound ∧ invariantStation.poolSound ∧ invariantStation.totesSound
      ∧ invariantStation.heardSound ∧ invariantStation.readerSound
      ∧ step invariantStation = .next (after .clockTick (invariantStation.setPending [])) := by
  refine ⟨⟨by decide, by decide, by decide +kernel⟩, ⟨by decide +kernel, fun b bd h => ?_⟩,
    ⟨by decide, by decide, by decide +kernel⟩, ⟨by decide, ?_, fun p => ?_, by decide⟩,
    ⟨by decide, fun f h => ?_⟩, rfl⟩
  · rw [invariantStation_bay] at h
    split at h
    · cases h; decide
    · cases h
  · intro h hm
    exact absurd hm (by simp [show invariantStation.peers.heard = [] from rfl])
  · simp [State.heardOf, show invariantStation.peers.heard = [] from rfl]
  · cases h
    decide

theorem test_witness_SettingsStayInRangeAndFixed :
    invariantStation.settingsInRange
      ∧ step invariantStation = .next (after .clockTick (invariantStation.setPending []))
      ∧ exec .mergePulseEnd invariantStation = .next (after .mergePulseEnd invariantStation)
      ∧ (∀ straps, Instr.mergePulseEnd ≠ .hardReset straps) ∧ (∀ straps tx, Instr.mergePulseEnd ≠ .restart straps tx)
      ∧ (∀ record, Instr.mergePulseEnd ≠ .settingsLoad record) ∧ Instr.mergePulseEnd ≠ .settingsLoadTimeout :=
  ⟨by unfold State.settingsInRange; decide, rfl, rfl, by simp, by simp, by simp, by decide⟩

theorem linesNamed_invariantStation : invariantStation.linesNamed := by
  intro b l hl
  rw [invariantStation_linesOf] at hl
  split at hl
  · obtain rfl : l = _ := by simpa using hl
    refine ⟨by decide, fun c hc => ?_⟩
    obtain rfl : c = 0x1A07 := by simpa [line] using hc
    decide +kernel
  · simp at hl

theorem test_witness_StepKeepsAccumulatorsOnTheirCondition :
    invariantStation.accumulatorsSound
      ∧ step invariantStation = .next (after .clockTick (invariantStation.setPending [])) := by
  refine ⟨⟨linesNamed_invariantStation, by decide, fun b bd hb l hl => ?_⟩, rfl⟩
  rw [invariantStation_bay] at hb
  split at hb
  · cases hb
    obtain rfl : l = _ := by simpa [build] using hl
    decide +kernel
  · cases hb

theorem test_witness_StepKeepsTheBuildsPromise :
    invariantStation.storeSound
      ∧ step invariantStation = .next (after .clockTick (invariantStation.setPending [])) := by
  refine ⟨⟨⟨by decide, by decide, ⟨1, by decide, by decide⟩, by decide⟩, fun b l hl => ?_, fun b i => ?_,
    linesNamed_invariantStation, fun b bd hb hw => ?_, fun b bd hb => ?_⟩, rfl⟩
  · rw [invariantStation_linesOf] at hl
    split at hl
    · obtain rfl : l = _ := by simpa using hl
      decide
    · simp at hl
  · unfold State.pinnedOn
    rw [invariantStation_linesOf]
    match i with
    | 0 => fin_cases b <;> rfl
    | i + 1 => fin_cases b <;> rfl
  · rw [invariantStation_bay] at hb
    split at hb
    · cases hb; cases hw
    · cases hb
  · rw [invariantStation_bay] at hb
    split at hb
    · cases hb; decide +kernel
    · cases hb

theorem test_witness_ResetMeetsEveryInvariant :
    State.reset = State.reset ∧ exec (.hardReset 31) (station9 .active 7)
      = .next (after (.hardReset 31) (station9 .active 7)) := ⟨rfl, rfl⟩

theorem test_witness_MutedEndsOnlyAtAStart :
    (station9 .muted 7).ctl.mode = .muted
      ∧ exec .refreshExpiry (station9 .muted 7) = .next (after .refreshExpiry (station9 .muted 7))
      ∧ (∀ straps, Instr.refreshExpiry ≠ .hardReset straps) ∧ (∀ straps tx, Instr.refreshExpiry ≠ .restart straps tx)
      ∧ (station9 .muted 7).li.lde = false :=
  ⟨rfl, rfl, by simp, by simp, rfl⟩

theorem test_witness_ItemsInUseNeverChange :
    invariantStation.itemInUse 0x1A07 = true ∧ findItem invariantStation.items 0x1A07 = some ⟨0x1A07, 450, 340, false⟩
      ∧ exec (.removeItem (req [0x1A, 0x07])) invariantStation
        = .next (after (.removeItem (req [0x1A, 0x07])) invariantStation)
      ∧ (∀ straps, Instr.removeItem (req [0x1A, 0x07]) ≠ .hardReset straps) :=
  ⟨by decide +kernel, by decide +kernel, rfl, by simp⟩

end Sys2Proof.Tests
end

