-- ==== Sys2Proof/Proofs/RemoveItem.lean ====
section
/-! PROOF. Remove Item (R5): the item code read back from its block, the two questions its checks ask of the table and
the lines, what the Build Store does with it, and the answer at the bench port. -/

namespace Sys2Proof.Machine

/-! ## The item code in a block -/

/-- Two bytes spell a number below 65536 again (R183). -/
theorem ofBe_be_two {v : Nat} (h : v < 65536) : ofBe (be 2 v) = v := by
  simp only [be, ofBe, List.foldl_cons, List.foldl_nil, BitVec.toNat_ofNat]
  omega

/-- A code written at the head of a block is read back from it (R183). -/
@[simp] theorem codeAt_code16_append (c : BitVec 16) (rest : List Byte) : codeAt (code16 c ++ rest) 0 = c := by
  have hfield : fieldAt (code16 c ++ rest) 0 2 = c.toNat := by
    rw [fieldAt, List.drop_zero, List.take_left' (code16_length c), code16, ofBe_be_two c.isLt]
  rw [codeAt, hfield, BitVec.ofNat_toNat, BitVec.setWidth_eq]

@[simp] theorem codeAt_code16 (c : BitVec 16) : codeAt (code16 c) 0 = c := by
  simpa using codeAt_code16_append c []

/-! ## The item table and the lines in use -/

/-- The table holds no record of a code (R1). -/
theorem findItem_isNone_iff {items : List ItemRecord} {code : ItemCode} :
    (findItem items code).isNone = true ↔ ∀ r ∈ items, r.code ≠ code := by
  simp [findItem]

theorem mem_allBays (b : BayNo) : b ∈ allBays := by
  revert b; decide

theorem Line.names_iff {l : Line} {code : ItemCode} :
    l.names code = true ↔ l.primary = code ∨ code ∈ l.substitutes := by
  simp [Line.names]

/-- An item is in use while a line of some bay names it (R2). -/
theorem State.itemInUse_iff {s : State} {code : ItemCode} :
    s.itemInUse code = true ↔ ∃ b, ∃ l ∈ s.linesOf b, l.primary = code ∨ code ∈ l.substitutes := by
  simp only [State.itemInUse, List.any_eq_true, Line.names_iff, mem_allBays, true_and]

theorem State.beginRequest_linesOf (s : State) (n : Nat) : (s.beginRequest n).linesOf = s.linesOf := rfl

/-! ## The request at the bench port -/

/-- A request that is closed in LOADING is answered BUSY there, its block carried whole and of the right length (R175,
check 4). -/
theorem State.serve_loading {s : State} {rule : List Byte → Bool} {tx block : List Byte} (refusal : Status → Reply)
    (owner : List Byte → State → State × Reply) (h : s.port.state = .idle) (hm : s.ctl.mode = .loading)
    (hb : carries tx block) (hr : rule block = true) :
    s.serve rule false refusal tx owner = s.replied tx.length (refusal .busy) := by
  apply State.serve_refused refusal owner h
  simp [checkRequest_carries rule _ hb, hr, hm]

/-- An owner that changes only the item table leaves the change and its reply (R173). -/
theorem State.begin_setItems_finish {s : State} (n : Nat) (v : List ItemRecord) (r : Reply)
    (h : s.port.state = .idle) :
    ((s.beginRequest n).setItems v).finishRequest r = (s.setItems v).replied n r :=
  State.begin_finish (s := s.setItems v) n r h

/-! ## Remove Item -/

/-- What the Build Store does with the request: the three checks in their order, and then the removal (R5). -/
theorem removeItemOwner_code16 (code : ItemCode) (s : State) :
    removeItemOwner (code16 code) s
      = if code = 0 then (s, bareReply .badArg)
        else if ∀ r ∈ s.items, r.code ≠ code then (s, bareReply .unknownItem)
        else if ∃ b, ∃ l ∈ s.linesOf b, l.primary = code ∨ code ∈ l.substitutes then (s, bareReply .inUse)
        else (s.setItems (s.items.filter fun r => r.code != code), okReply []) := by
  simp only [removeItemOwner, codeAt_code16, findItem_isNone_iff, State.itemInUse_iff]
  rfl

section
variable {tx : List Byte} {code : ItemCode} {s : State}

/-- In LOADING the request is answered BUSY (R5, R175). -/
theorem exec_removeItem_loading (hs : s.listens) (hb : carries tx (code16 code)) (hm : s.ctl.mode = .loading) :
    exec (.removeItem tx) s = .next (s.replied tx.length (bareReply .busy)) := by
  obtain ⟨hup, hidle⟩ := hs
  change execRemoveItem tx s = _
  rw [execRemoveItem, State.whileUp_of_up _ hup, State.serve_loading _ _ hidle hm hb (by simp [fixedLength])]
  rfl

/-- In every other mode the Build Store takes the request (R5). -/
theorem exec_removeItem_taken (hs : s.listens) (hb : carries tx (code16 code)) (hm : s.ctl.mode ≠ .loading) :
    exec (.removeItem tx) s = .next
      ((removeItemOwner (code16 code) (s.beginRequest tx.length)).1.finishRequest
        (removeItemOwner (code16 code) (s.beginRequest tx.length)).2) := by
  obtain ⟨hup, hidle⟩ := hs
  change execRemoveItem tx s = _
  rw [execRemoveItem, State.whileUp_of_up _ hup,
    State.serve_carries _ _ hidle (.inl hm) hb (by simp [fixedLength])]

end

/-- Settles O18: BUSY in LOADING; in every other mode a case for each check of R5, in order, and the removal where all
three pass. -/
theorem removeItemTakesOutAnUnusedRecord : Obligations.RemoveItemTakesOutAnUnusedRecord := by
  intro tx code s hs hb
  refine ⟨exec_removeItem_loading hs hb, fun hm => ?_⟩
  have hanswer (r : Reply) := State.begin_finish tx.length r hs.2
  rw [exec_removeItem_taken hs hb hm, removeItemOwner_code16, State.beginRequest_items,
    State.beginRequest_linesOf]
  split_ifs with hzero hunknown hinUse
  · rw [hanswer]
  · rw [hanswer]
  · rw [hanswer]
  · rw [State.begin_setItems_finish _ _ _ hs.2]

end Sys2Proof.Machine
end

/-! PROOF. Read Deviations (R155) and Clear Deviations (R156): what the bench port does with a request of fixed length
that is closed in LOADING, the page a reply returns, its layout, and the two answers. -/

namespace Sys2Proof.Machine

/-! ## A request of fixed length at the bench port -/

section
variable {n : Nat} {tx block : List Byte} {s : State} {owner : List Byte → State → State × Reply}

/-- A block of the wrong length is answered BAD_REQUEST in every mode (R175, check 3). -/
theorem State.request_wrongLength (hs : s.listens) (hb : carries tx block) (hn : block.length ≠ n) :
    (s.whileUp fun t => t.serve (fixedLength n) false Reply.refuse tx owner)
      = s.replied tx.length (bareReply .badRequest) := by
  obtain ⟨hup, hidle⟩ := hs
  rw [State.whileUp_of_up _ hup]
  apply State.serve_refused Reply.refuse owner hidle
  simp [checkRequest_carries _ _ hb, fixedLength, hn]

/-- In LOADING a block of the right length is answered BUSY (R175, check 4). -/
theorem State.request_loading (hs : s.listens) (hb : carries tx block) (hn : block.length = n)
    (hm : s.ctl.mode = .loading) :
    (s.whileUp fun t => t.serve (fixedLength n) false Reply.refuse tx owner)
      = s.replied tx.length (bareReply .busy) := by
  obtain ⟨hup, hidle⟩ := hs
  rw [State.whileUp_of_up _ hup, State.serve_loading _ _ hidle hm hb (by simp [fixedLength, hn])]
  rfl

/-- In every other mode a block of the right length reaches the owner (R173). -/
theorem State.request_taken (hs : s.listens) (hb : carries tx block) (hn : block.length = n)
    (hm : s.ctl.mode ≠ .loading) :
    (s.whileUp fun t => t.serve (fixedLength n) false Reply.refuse tx owner)
      = (owner block (s.beginRequest tx.length)).1.finishRequest (owner block (s.beginRequest tx.length)).2 := by
  obtain ⟨hup, hidle⟩ := hs
  rw [State.whileUp_of_up _ hup, State.serve_carries _ _ hidle (.inl hm) hb (by simp [fixedLength, hn])]

end

/-- An owner that changes only the deviation table leaves the change and its reply (R173). -/
theorem State.begin_setDev_finish {s : State} (n : Nat) (v : DeviationTable) (r : Reply)
    (h : s.port.state = .idle) :
    ((s.beginRequest n).setDev v).finishRequest r = (s.setDev v).replied n r :=
  State.begin_finish (s := s.setDev v) n r h

/-! ## The page -/

/-- The page is the indices from `start` up to the smaller of `start + count` and the held count (R155). -/
theorem DeviationTable.page_eq_drop_take (d : DeviationTable) (start count : Nat) :
    d.page start count = (d.records.take (min (start + count) d.records.length)).drop start := by
  have hcut : d.records.take (min (start + count) d.records.length) = d.records.take (start + count) := by
    rw [← List.take_take, List.take_length]
  rw [hcut, List.drop_take, Nat.add_sub_cancel_left, DeviationTable.page]

/-- A page holds no record where its start is at or above the held count, and is cut at the held count (R155). -/
theorem DeviationTable.page_length (d : DeviationTable) (start count : Nat) :
    (d.page start count).length = min (start + count) d.records.length - start := by
  rw [DeviationTable.page_eq_drop_take, List.length_drop, List.length_take, min_eq_left (min_le_right _ _)]

/-- The record at place `k` of a page has index `start + k` in the list (R155). -/
theorem DeviationTable.page_getElem? {d : DeviationTable} {start count k : Nat}
    (hk : k < (d.page start count).length) : (d.page start count)[k]? = d.records[start + k]? := by
  have hcount : k < count := by
    rw [DeviationTable.page_length] at hk
    omega
  rw [DeviationTable.page, List.getElem?_take_of_lt hcount, List.getElem?_drop]

/-! ## Read Deviations -/

/-- READ_DEVIATIONS is a request of two bytes, closed in LOADING (R155, R185). -/
theorem exec_readDeviations (tx : List Byte) (s : State) :
    exec (.readDeviations tx) s
      = .next (s.whileUp fun t => t.serve (fixedLength 2) false Reply.refuse tx readDeviationsOwner) := rfl

/-- A one-byte field is the byte at its offset. -/
theorem fieldAt_one_of_getElem? {block : List Byte} {k : Nat} {x : Byte} (h : block[k]? = some x) :
    fieldAt block k 1 = x.toNat := by
  obtain ⟨hk, hx⟩ := List.getElem?_eq_some_iff.mp h
  rw [fieldAt, List.drop_eq_getElem_cons hk, hx]
  simp [ofBe]

/-- What the Deviation Table does with the request: the check of the count, and then the page (R155). -/
theorem readDeviationsOwner_pair (start count : Byte) (s : State) :
    readDeviationsOwner [start, count] s
      = if count.toNat = 0 ∨ 8 < count.toNat then (s, bareReply .badArg)
        else (s, okReply (s.dev.readOutput start.toNat count.toNat)) := by
  have hstart : fieldAt [start, count] 0 1 = start.toNat := fieldAt_one_of_getElem? rfl
  have hcount : fieldAt [start, count] 1 1 = count.toNat := fieldAt_one_of_getElem? rfl
  rw [readDeviationsOwner, hstart, hcount]
  rfl

section
variable {tx : List Byte} {start count : Byte} {s : State}

/-- A count of 0 or above 8 is answered BAD_ARG, without figures (R155). -/
theorem exec_readDeviations_badCount (hs : s.listens) (hb : carries tx [start, count]) (hm : s.ctl.mode ≠ .loading)
    (hc : count.toNat = 0 ∨ 8 < count.toNat) :
    exec (.readDeviations tx) s = .next (s.replied tx.length (bareReply .badArg)) := by
  rw [exec_readDeviations, State.request_taken (n := 2) hs hb rfl hm, readDeviationsOwner_pair, if_pos hc,
    State.begin_finish _ _ hs.2]

/-- A count of 1 to 8 is answered with the figures and the page, and the table stays as it stands (R155). -/
theorem exec_readDeviations_page (hs : s.listens) (hb : carries tx [start, count]) (hm : s.ctl.mode ≠ .loading)
    (hpos : 1 ≤ count.toNat) (hle : count.toNat ≤ 8) :
    exec (.readDeviations tx) s
      = .next (s.replied tx.length (okReply (s.dev.readOutput start.toNat count.toNat))) := by
  rw [exec_readDeviations, State.request_taken (n := 2) hs hb rfl hm, readDeviationsOwner_pair, if_neg (by omega),
    State.begin_finish _ _ hs.2, State.beginRequest_dev]

end

/-- Settles O27: the two checks of the Bench Port, the check of the count, and the page by its index range. The layout
written out in the statement is `Deviation.bytes`, kind by kind. -/
theorem readDeviationsReturnsAPage : Obligations.ReadDeviationsReturnsAPage := by
  intro tx block s hs hb
  refine ⟨fun hn => ?_, ?_⟩
  · rw [exec_readDeviations, State.request_wrongLength hs hb hn]
  rintro start count rfl
  refine ⟨fun hm => ?_, fun hm => ⟨exec_readDeviations_badCount hs hb hm, fun hpos hle => ?_⟩⟩
  · rw [exec_readDeviations, State.request_loading (n := 2) hs hb rfl hm]
  intro held last page long short layout
  have hpage : page = s.dev.page start.toNat count.toNat :=
    (s.dev.page_eq_drop_take start.toNat count.toNat).symm
  have hlayout : layout = Deviation.bytes := by
    funext ⟨number, time, kind⟩
    cases kind with
    | substituted b ref line fromItem toItem remaining => rfl
    | substituteExhausted b ref line => rfl
    | chillLapse b ref => rfl
    | deadlineMissed b ref => rfl
    | shortTote tote item drawn taken => rfl
    | divertMissed tote item drawn => rfl
  rw [hpage, hlayout]
  exact ⟨exec_readDeviations_page hs hb hm hpos hle, s.dev.page_length _ _,
    fun k hk => DeviationTable.page_getElem? hk⟩

/-! ## Clear Deviations -/

/-- CLEAR_DEVIATIONS is a request without parameters, closed in LOADING (R156, R185). -/
theorem exec_clearDeviations (tx : List Byte) (s : State) :
    exec (.clearDeviations tx) s
      = .next (s.whileUp fun t => t.serve (fixedLength 0) false Reply.refuse tx clearDeviationsOwner) := rfl

/-- The clear: the figures before it and the clock in the reply, and then nothing in the table but the new time of last
clear (R156). -/
theorem exec_clearDeviations_taken {tx : List Byte} {s : State} (hs : s.listens) (hb : carries tx [])
    (hm : s.ctl.mode ≠ .loading) :
    exec (.clearDeviations tx) s
      = .next ((s.setDev { records := [], sinceClear := 0, lastClear := s.clock }).replied tx.length
          (okReply s.clearOutput)) := by
  rw [exec_clearDeviations, State.request_taken (n := 0) hs hb rfl hm, clearDeviationsOwner,
    State.begin_setDev_finish _ _ _ hs.2]
  rfl

/-- The first record after a clear is alone in the list and numbered 1 (R153, R156). -/
theorem DeviationTable.add_records_of_cleared {d : DeviationTable} (hrecords : d.records = [])
    (hcount : d.sinceClear = 0) (now : Nat) (k : DeviationKind) :
    (d.add now k).records = [{ number := 1, time := now, kind := k }] := by
  have hnumber : d.nextNumber = 1 := by
    rw [DeviationTable.nextNumber, hcount]
    rfl
  simp [DeviationTable.add, hrecords, hnumber]

/-- Settles O28: the two checks of the Bench Port, the clear with its reply, and the first record after it. -/
theorem clearDeviationsEmptiesTheTable : Obligations.ClearDeviationsEmptiesTheTable := by
  intro tx block s hs hb
  refine ⟨fun hne => ?_, ?_⟩
  · rw [exec_clearDeviations, State.request_wrongLength hs hb (mt List.length_eq_zero_iff.mp hne)]
  rintro rfl
  refine ⟨fun hm => ?_, fun hm => ⟨exec_clearDeviations_taken hs hb hm, ?_⟩⟩
  · rw [exec_clearDeviations, State.request_loading (n := 0) hs hb rfl hm]
  · exact DeviationTable.add_records_of_cleared rfl rfl

end Sys2Proof.Machine

/-! PROOF. Every command of the block: that it answers a next state, which fields of State it can write, and what that
settles at once (R159, R161). -/

namespace Sys2Proof.Machine

/-! ## Answers -/

/-- No command stops the block. -/
theorem exec_next (c : Instr) (s : State) : ∃ t, exec c s = .next t := by
  cases c <;> exact ⟨_, rfl⟩

/-- Settles O1: the step unfolds to the command at the front, and to nothing where none waits. -/
theorem stepRunsTheFrontCommand : Obligations.StepRunsTheFrontCommand := by
  refine ⟨fun c s => rfl, fun s hs => ?_⟩
  rw [step, hs]

/-- A step runs a command on the state without it, or leaves the state as it is. -/
theorem step_cases {s t : State} (h : step s = .next t) :
    t = s ∨ ∃ c rest, s.pending = c :: rest ∧ exec c (s.setPending rest) = .next t := by
  unfold step at h
  split at h
  · exact .inl (by injection h with h; exact h.symm)
  · next c rest hp => exact .inr ⟨c, rest, hp, h⟩

/-- What every command keeps, and what the queue of commands does not enter, every step keeps. -/
theorem step_keeps {P : State → Prop} (hpending : ∀ s v, P s → P (s.setPending v))
    (hexec : ∀ (c : Instr) (s t : State), exec c s = .next t → P s → P t) {s t : State} (h : step s = .next t)
    (hs : P s) : P t := by
  obtain rfl | ⟨c, rest, -, hc⟩ := step_cases h
  · exact hs
  · exact hexec c _ t hc (hpending s rest hs)

/-! ## What is written -/

/-- The fields of State a command can write. -/
def fieldsWritten : Instr → List Block
  | .hardReset _ => [.resetLow, .clock, .ctl, .loader, .items, .bays, .li, .peers, .totes, .lane, .dev, .port]
  | .settingsLoad _ => [.ctl, .loader, .li, .peers, .totes, .port]
  | .settingsLoadTimeout => [.ctl, .loader, .li, .peers, .totes, .port]
  | .settleExpiry => [.ctl, .bays, .li, .dev, .port, .draws]
  | .readIdentity _ => [.port]
  | .readStatus _ => [.port]
  | .readClock _ => [.port]
  | .readEvents _ => [.port]
  | .setEventEnables _ => [.port]
  | .loadItems _ => [.port, .items]
  | .removeItem _ => [.port, .items]
  | .openBuild _ => [.port, .bays, .li, .dev]
  | .cancelBuild _ => [.port, .ctl, .bays, .li, .dev, .draws]
  | .sealBuild _ => [.port, .ctl, .bays, .li, .dev, .draws]
  | .holdBays _ => [.port, .bays, .li, .dev, .draws]
  | .releaseBays _ => [.port, .bays, .li, .dev, .draws]
  | .readBay _ => [.port]
  | .confirmPick _ => [.port, .ctl, .bays, .li, .totes, .lane, .dev, .draws]
  | .returnTote _ => [.port, .ctl, .bays, .li, .totes, .lane, .dev, .draws]
  | .readLane _ _ => [.port]
  | .readDeviations _ => [.port]
  | .clearDeviations _ => [.port, .dev]
  | .setMode _ => [.port, .ctl, .bays, .li, .dev, .draws]
  | .readPeers _ => [.port]
  | .readLineCounters _ => [.port, .li]
  | .readSettings _ => [.port]
  | .writeSettings _ => [.port, .loader]
  | .writeAccessEnd => [.loader, .port]
  | .writeAccessTimeout => [.loader, .port]
  | .restart _ _ => [.ctl, .loader, .bays, .li, .peers, .totes, .lane, .port]
  | .fetchTransaction _ => [.port]
  | .tagRead _ _ _ => readerBlocks
  | .shortReaderFrame => [.totes]
  | .arrival _ => [.lane, .port]
  | .divertPulseEnd => [.lane]
  | .mergePulseEnd => [.lane]
  | .divertConfirmExpiry _ => [.ctl, .bays, .li, .totes, .lane, .dev, .port, .draws]
  | .dwellExpiry _ => [.lane, .port]
  | .chillWindowExpiry _ => [.bays, .li, .dev, .port, .draws]
  | .deadlineExpiry _ => [.bays, .dev, .port]
  | .substituteWaitExpiry _ _ => [.bays, .li, .dev, .port]
  | .silenceExpiry _ => [.peers]
  | .refreshExpiry => [.peers, .li]
  | .attempt _ => [.li]
  | .noticeComplete => [.li, .peers]
  | .collision => [.li]
  | .jamEnd => [.li, .draws, .port]
  | .backoffEnd => [.li]
  | .badFrame _ => [.ctl, .bays, .li, .peers, .totes, .dev, .port, .draws]
  | .joinNotice _ _ _ _ _ => [.ctl, .bays, .li, .peers, .totes, .dev, .port, .draws]
  | .demandNotice _ _ _ => [.ctl, .bays, .li, .peers, .totes, .dev, .port, .draws]
  | .drawNotice _ _ _ _ _ _ _ => [.ctl, .bays, .li, .peers, .totes, .dev, .port, .draws]
  | .tallyNotice _ _ _ _ _ _ => [.ctl, .bays, .li, .peers, .totes, .dev, .port, .draws]
  | .clockTick => [.clock]
  | .resetLow => [.resetLow, .loader, .li, .lane, .port]
  | .unknownRequestCode _ _ => [.port]

/-! ### Requests -/

theorem State.whileUp_changedOnly {s : State} {f : State → State} {bs : List Block} (h : s.changedOnly (f s) bs) :
    s.changedOnly (s.whileUp f) bs := by
  unfold State.whileUp
  split
  · exact s.changedOnly_refl _
  · exact h

theorem State.fetch_changedOnly (s : State) (clocked : Nat) : s.changedOnly (s.fetch clocked) [.port] := by
  unfold State.fetch
  split
  · exact s.ignoreTransaction_changedOnly _
  · exact s.setPort_changedOnly _

theorem State.unknownRequest_changedOnly (s : State) (code : Byte) (tx : List Byte) :
    s.changedOnly (s.unknownRequest code tx) [.port] := by
  unfold State.unknownRequest
  split_ifs
  · exact s.changedOnly_refl _
  · exact s.ignoreTransaction_changedOnly _
  · exact State.changedOnly_trans (s.beginRequest_changedOnly _) (State.finishRequest_changedOnly _ _)

theorem enablesOwner_changedOnly (block : List Byte) (s : State) : s.changedOnly (enablesOwner block s).1 [.port] := by
  unfold enablesOwner
  dsimp only
  split
  · exact s.changedOnly_refl _
  · exact s.setPort_changedOnly _

theorem State.loadRecords_changedOnly (rs : List RawItem) (s : State) (taken : Nat) :
    s.changedOnly (s.loadRecords rs taken).1 [.items] := by
  induction rs generalizing s taken with
  | nil => exact s.changedOnly_refl _
  | cons r rs ih =>
    unfold State.loadRecords
    split
    · exact s.changedOnly_refl _
    · exact State.changedOnly_trans (s.setItems_changedOnly _) (ih _ _)

theorem loadItemsOwner_changedOnly (block : List Byte) (s : State) :
    s.changedOnly (loadItemsOwner block s).1 [.items] := by
  unfold loadItemsOwner
  dsimp only
  split
  · exact s.changedOnly_refl _
  · exact State.loadRecords_changedOnly _ s 0

theorem removeItemOwner_changedOnly (block : List Byte) (s : State) :
    s.changedOnly (removeItemOwner block s).1 [.items] := by
  unfold removeItemOwner
  dsimp only
  split_ifs
  · exact s.changedOnly_refl _
  · exact s.changedOnly_refl _
  · exact s.changedOnly_refl _
  · exact s.setItems_changedOnly _

theorem State.openBuild_changedOnly (s : State) (b : BayNo) (p : BuildParams) :
    s.changedOnly (s.openBuild b p) [.bays, .li, .dev, .port] := by
  have hopen : s.changedOnly ((s.setBay b (some (s.newBuild p))).evalBays [b]) [.bays, .li, .dev, .port] :=
    State.changedOnly_trans (State.changedOnly_mono (s.setBay_changedOnly _ _) (by simp))
      (State.changedOnly_mono (State.evalBays_changedOnly _ _) (by simp))
  refine State.changedOnly_trans (State.changedOnly_trans hopen ?_)
    (State.changedOnly_mono (State.changeCheck_changedOnly _) (by simp))
  unfold State.deadlineAtOnce
  split
  · exact State.changedOnly_mono (State.takeDeadline_changedOnly _ _) (by simp)
  · exact State.changedOnly_refl _ _

theorem openBuildOwner_changedOnly (block : List Byte) (s : State) :
    s.changedOnly (openBuildOwner block s).1 [.bays, .li, .dev, .port] := by
  unfold openBuildOwner
  dsimp only
  split
  · exact s.changedOnly_refl _
  · split
    · exact s.changedOnly_refl _
    · split
      · exact s.changedOnly_refl _
      · exact s.openBuild_changedOnly _ _

theorem cancelBuildOwner_changedOnly (block : List Byte) (s : State) :
    s.changedOnly (cancelBuildOwner block s).1 [.ctl, .bays, .li, .dev, .port, .draws] := by
  unfold cancelBuildOwner
  split
  · exact s.changedOnly_refl _
  · split
    · exact s.changedOnly_refl _
    · split
      · exact s.changedOnly_refl _
      · exact s.returnToEmpty_changedOnly _

theorem sealBuildOwner_changedOnly (block : List Byte) (s : State) :
    s.changedOnly (sealBuildOwner block s).1 [.ctl, .bays, .li, .dev, .port, .draws] := by
  unfold sealBuildOwner
  split
  · exact s.changedOnly_refl _
  · split
    · exact s.changedOnly_refl _
    · split
      · exact s.changedOnly_refl _
      · exact s.returnToEmpty_changedOnly _

theorem State.afterBayChanges_changedOnly (s : State) (bs : List BayNo) :
    s.changedOnly (s.afterBayChanges bs) [.bays, .li, .dev, .port, .draws] := by
  unfold State.afterBayChanges
  split
  · exact s.changedOnly_refl _
  · exact State.changedOnly_trans (s.reevaluate_changedOnly _)
      (State.changedOnly_mono (State.changeCheck_changedOnly _) (by simp))

theorem State.releaseBay_changedOnly (s : State) (b : BayNo) : s.changedOnly (s.releaseBay b) [.bays, .port] := by
  unfold State.releaseBay
  split
  · exact s.changedOnly_refl _
  · dsimp only
    split
    · exact State.changedOnly_trans (State.changedOnly_mono (s.setBay_changedOnly _ _) (by simp))
        (State.changedOnly_mono (State.setFlag_changedOnly _ _) (by simp))
    · exact State.changedOnly_mono (s.setBay_changedOnly _ _) (by simp)

theorem holdBaysOwner_changedOnly (block : List Byte) (s : State) :
    s.changedOnly (holdBaysOwner block s).1 [.bays, .li, .dev, .port, .draws] :=
  State.changedOnly_trans
    (State.changedOnly_mono
      (State.changedOnly_foldl _ (fun (t : State) b => t.modifyBuild_changedOnly b Build.hold) _ s) (by simp))
    (State.afterBayChanges_changedOnly _ _)

theorem releaseBaysOwner_changedOnly (block : List Byte) (s : State) :
    s.changedOnly (releaseBaysOwner block s).1 [.bays, .li, .dev, .port, .draws] :=
  State.changedOnly_trans
    (State.changedOnly_mono (State.changedOnly_foldl _ State.releaseBay_changedOnly _ s) (by simp))
    (State.afterBayChanges_changedOnly _ _)

theorem State.placePick_changedOnly (s : State) (e : LaneEntry) (taken : List Nat) :
    s.changedOnly (s.placePick e taken) [.bays, .port] :=
  State.changedOnly_trans
    (State.changedOnly_mono (State.changedOnly_foldl _ State.place_changedOnly _ s) (by simp))
    (State.changedOnly_foldl _ (State.bayStep_changedOnly _) _ _)

theorem State.settleShort_changedOnly (s : State) (e : LaneEntry) (taken : Nat) :
    s.changedOnly (s.settleShort e taken) [.li, .totes, .dev, .port] := by
  unfold State.settleShort
  split
  · exact State.changedOnly_trans (State.changedOnly_mono (s.settle_changedOnly _ _) (by simp))
      (State.changedOnly_mono (State.record_changedOnly _ _) (by simp))
  · exact s.changedOnly_refl _

/-- What a departure from the lane can write. -/
def departureBlocks : List Block := [.ctl, .bays, .li, .totes, .lane, .dev, .port, .draws]

theorem State.confirmPick_changedOnly (s : State) (e : LaneEntry) (taken : List Nat) :
    s.changedOnly (s.confirmPick e taken) departureBlocks :=
  State.changedOnly_trans
    (State.changedOnly_trans
      (State.changedOnly_trans
        (State.changedOnly_mono (s.placePick_changedOnly e taken) (by simp [departureBlocks]))
        (State.changedOnly_mono (State.settleShort_changedOnly _ _ _) (by simp [departureBlocks])))
      (State.changedOnly_mono (State.pulseMerge_changedOnly _) (by simp [departureBlocks])))
    (State.changedOnly_mono (State.endDeparture_changedOnly _ _) (by simp [departureBlocks]))

theorem confirmPickOwner_changedOnly (block : List Byte) (s : State) :
    s.changedOnly (confirmPickOwner block s).1 departureBlocks := by
  unfold confirmPickOwner
  split
  · exact s.changedOnly_refl _
  · split
    · exact s.changedOnly_refl _
    · exact s.confirmPick_changedOnly _ _

theorem State.returnTote_changedOnly (s : State) (e : LaneEntry) : s.changedOnly (s.returnTote e) departureBlocks :=
  State.changedOnly_trans
    (State.changedOnly_trans
      (State.changedOnly_trans
        (State.changedOnly_mono (s.unpinAll_changedOnly e.allocations) (by simp [departureBlocks]))
        (State.changedOnly_mono (State.settle_changedOnly _ _ _) (by simp [departureBlocks])))
      (State.changedOnly_mono (State.pulseMerge_changedOnly _) (by simp [departureBlocks])))
    (State.changedOnly_mono (State.endDeparture_changedOnly _ _) (by simp [departureBlocks]))

theorem returnToteOwner_changedOnly (block : List Byte) (s : State) :
    s.changedOnly (returnToteOwner block s).1 departureBlocks := by
  unfold returnToteOwner
  split
  · exact s.changedOnly_refl _
  · exact s.returnTote_changedOnly _

theorem setModeOwner_changedOnly (block : List Byte) (s : State) :
    s.changedOnly (setModeOwner block s).1 [.ctl, .bays, .li, .dev, .port, .draws] := by
  unfold setModeOwner
  split
  · exact s.changedOnly_refl _
  · split
    · exact s.changedOnly_refl _
    · unfold State.acceptMode
      split_ifs
      · exact s.changedOnly_refl _
      · exact State.changedOnly_trans (s.changeMode_changedOnly _ _) (State.closingCheck_changedOnly _)
      · exact s.changeMode_changedOnly _ _

theorem writeSettingsOwner_changedOnly (block : List Byte) (s : State) :
    s.changedOnly (writeSettingsOwner block s).1 [.loader] := by
  unfold writeSettingsOwner
  split_ifs
  · exact s.changedOnly_refl _
  · exact s.changedOnly_refl _
  · exact s.setLoader_changedOnly _

theorem readBayOwner_changedOnly (block : List Byte) (s : State) : s.changedOnly (readBayOwner block s).1 [] := by
  unfold readBayOwner
  split
  · exact s.changedOnly_refl _
  · exact s.changedOnly_refl _

theorem readPeersOwner_changedOnly (block : List Byte) (s : State) : s.changedOnly (readPeersOwner block s).1 [] := by
  unfold readPeersOwner
  split
  · exact s.changedOnly_refl _
  · exact s.changedOnly_refl _

theorem readDeviationsOwner_changedOnly (block : List Byte) (s : State) :
    s.changedOnly (readDeviationsOwner block s).1 [] := by
  unfold readDeviationsOwner
  dsimp only
  split
  · exact s.changedOnly_refl _
  · exact s.changedOnly_refl _

/-- What a Restart can write. -/
def restartBlocks : List Block := [.ctl, .loader, .bays, .li, .peers, .totes, .lane, .port]

theorem State.restart_changedOnly (s : State) (straps : BitVec 5) : s.changedOnly (s.restart straps) restartBlocks := by
  intro b hb
  cases b <;> first | rfl | simp [restartBlocks] at hb

theorem State.restartRequest_changedOnly (s : State) (straps : BitVec 5) (tx : List Byte) :
    s.changedOnly (s.restartRequest straps tx) restartBlocks := by
  have hanswer (r : Reply) :
      s.changedOnly ((s.beginRequest tx.length).finishRequest r) [.port] :=
    State.changedOnly_trans (s.beginRequest_changedOnly _) (State.finishRequest_changedOnly _ _)
  unfold State.restartRequest
  split
  · exact State.changedOnly_mono (s.ignoreTransaction_changedOnly _) (by simp [restartBlocks])
  · split
    · exact State.changedOnly_mono (hanswer _) (by simp [restartBlocks])
    · exact State.changedOnly_trans (State.changedOnly_mono (hanswer _) (by simp [restartBlocks]))
        (State.restart_changedOnly _ _)

/-! ### Start-up and the settings -/

theorem State.afterReset_changedOnly (s : State) (straps : BitVec 5) :
    s.changedOnly { State.afterReset straps with pending := s.pending, draws := s.draws }
      (fieldsWritten (.hardReset straps)) := by
  intro b hb
  cases b <;> first | rfl | simp [fieldsWritten] at hb

theorem State.lowerReset_changedOnly (s : State) : s.changedOnly s.lowerReset (fieldsWritten .resetLow) := by
  intro b hb
  cases b <;> first | rfl | simp [fieldsWritten] at hb

/-- What the end of a settings load can write. -/
def loadBlocks : List Block := [.ctl, .loader, .li, .peers, .totes, .port]

theorem State.enterSettling_changedOnly (s : State) : s.changedOnly s.enterSettling loadBlocks := by
  intro b hb
  cases b <;> first | rfl | simp [loadBlocks] at hb

theorem State.loadOutcome_changedOnly (s : State) (r : Settings × LoadOutcome) :
    s.changedOnly (s.loadOutcome r) [.loader, .port] := by
  have hset := State.changedOnly_mono (cs := [.loader, .port])
    (s.setLoader_changedOnly { s.loader with active := r.1, outcome := r.2 }) (by simp)
  unfold State.loadOutcome
  dsimp only
  split
  · exact hset
  · exact State.changedOnly_trans hset (State.changedOnly_mono (State.setNote_changedOnly _ _) (by simp))
  · exact State.changedOnly_trans hset (State.changedOnly_mono (State.setNote_changedOnly _ _) (by simp))

theorem State.endLoad_changedOnly (s : State) (r : Settings × LoadOutcome) : s.changedOnly (s.endLoad r) loadBlocks := by
  unfold State.endLoad
  split
  · exact State.changedOnly_trans (State.changedOnly_mono (s.loadOutcome_changedOnly r) (by simp [loadBlocks]))
      (State.enterSettling_changedOnly _)
  · exact s.changedOnly_refl _

theorem State.takeSettle_changedOnly (s : State) :
    s.changedOnly s.takeSettle [.ctl, .bays, .li, .dev, .port, .draws] := by
  unfold State.takeSettle
  split
  · exact State.changedOnly_trans (State.changedOnly_mono (s.setCtl_changedOnly _) (by simp))
      (State.changeMode_changedOnly _ _ _)
  · exact s.changedOnly_refl _

theorem State.endWriteAccess_changedOnly (s : State) : s.changedOnly s.endWriteAccess [.loader, .port] := by
  unfold State.endWriteAccess
  split
  · exact State.changedOnly_mono (s.setLoader_changedOnly _) (by simp)
  · exact State.changedOnly_trans (State.changedOnly_mono (s.setLoader_changedOnly _) (by simp))
      (State.changedOnly_mono (State.setFlag_changedOnly _ _) (by simp))
  · exact s.changedOnly_refl _
  · exact s.changedOnly_refl _

theorem State.timeoutWriteAccess_changedOnly (s : State) : s.changedOnly s.timeoutWriteAccess [.loader, .port] := by
  unfold State.timeoutWriteAccess
  split
  · exact State.changedOnly_trans (State.changedOnly_mono (s.setLoader_changedOnly _) (by simp))
      (State.changedOnly_mono (State.setFlag_changedOnly _ _) (by simp))
  · exact s.changedOnly_refl _
  · exact s.changedOnly_refl _

/-! ### The lane and the bays -/

theorem State.arrival_changedOnly (s : State) : s.changedOnly s.arrival [.lane, .port] := by
  unfold State.arrival
  split
  · exact State.changedOnly_trans (State.changedOnly_mono (s.setLane_changedOnly _) (by simp))
      (State.changedOnly_mono (State.setFlag_changedOnly _ _) (by simp))
  · exact State.changedOnly_trans (State.changedOnly_mono (s.setLane_changedOnly _) (by simp))
      (State.changedOnly_mono (State.setFlag_changedOnly _ _) (by simp))

theorem State.missDivert_changedOnly (s : State) (e : LaneEntry) : s.changedOnly (s.missDivert e) departureBlocks :=
  State.changedOnly_trans
    (State.changedOnly_trans
      (State.changedOnly_trans
        (State.changedOnly_trans
          (State.changedOnly_mono (s.unpinAll_changedOnly e.allocations) (by simp [departureBlocks]))
          (State.changedOnly_mono (State.settle_changedOnly _ _ _) (by simp [departureBlocks])))
        (State.changedOnly_mono (State.record_changedOnly _ _) (by simp [departureBlocks])))
      (State.changedOnly_mono (State.setFlag_changedOnly _ _) (by simp [departureBlocks])))
    (State.changedOnly_mono (State.endDeparture_changedOnly _ _) (by simp [departureBlocks]))

theorem State.takeConfirmExpiry_changedOnly (s : State) (tote : ToteId) :
    s.changedOnly (s.takeConfirmExpiry tote) departureBlocks := by
  unfold State.takeConfirmExpiry
  split
  · exact s.changedOnly_refl _
  · exact s.missDivert_changedOnly _

theorem State.takeDwell_changedOnly (s : State) (tote : ToteId) : s.changedOnly (s.takeDwell tote) [.lane, .port] := by
  unfold State.takeDwell
  split
  · exact State.changedOnly_trans (State.changedOnly_mono (s.setLane_changedOnly _) (by simp))
      (State.changedOnly_mono (State.setFlag_changedOnly _ _) (by simp))
  · exact s.changedOnly_refl _

theorem State.takeChill_changedOnly (s : State) (b : BayNo) :
    s.changedOnly (s.takeChill b) [.bays, .li, .dev, .port, .draws] := by
  unfold State.takeChill
  split
  · exact s.changedOnly_refl _
  · next bd _ =>
    have hlapse : s.changedOnly ((s.record (.chillLapse b bd.orderRef)).setBay b (some bd.lapsed))
        [.bays, .li, .dev, .port, .draws] :=
      State.changedOnly_trans (State.changedOnly_mono (s.record_changedOnly _) (by simp))
        (State.changedOnly_mono (State.setBay_changedOnly _ _ _) (by simp))
    dsimp only
    split_ifs
    · exact s.changedOnly_refl _
    · exact hlapse
    · exact State.changedOnly_trans (State.changedOnly_trans hlapse (State.reevaluate_changedOnly _ _))
        (State.changedOnly_mono (State.changeCheck_changedOnly _) (by simp))

/-! ### The station line -/

theorem State.takeSilence_changedOnly (s : State) (p : Nat) : s.changedOnly (s.takeSilence p) [.peers] := by
  unfold State.takeSilence
  split
  · exact State.changedOnly_trans (s.setPeer_changedOnly _ _) (State.removeHeard_changedOnly _ _)
  · exact s.changedOnly_refl _

theorem State.takeRefresh_changedOnly (s : State) : s.changedOnly s.takeRefresh [.peers, .li] := by
  unfold State.takeRefresh
  split
  · exact s.changedOnly_refl _
  · split
    · exact State.changedOnly_trans (State.changedOnly_mono (s.setPeers_changedOnly _) (by simp))
        (State.changedOnly_mono (State.offerMarker_changedOnly _) (by simp))
    · exact s.changedOnly_refl _

theorem State.attempt_changedOnly (s : State) (lineIdle : Bool) : s.changedOnly (s.attempt lineIdle) [.li] := by
  obtain ⟨-, h⟩ | ⟨-, -, ⟨-, h⟩ | ⟨n, rest, -, -, -, h⟩⟩ := s.attempt_cases lineIdle
  · rw [h]; exact s.changedOnly_refl _
  · rw [h]; exact s.seeIdle_changedOnly
  · rw [h]
    split
    · exact State.changedOnly_trans s.seeIdle_changedOnly (State.setLi_changedOnly _ _)
    · exact State.changedOnly_trans s.seeIdle_changedOnly (State.setLi_changedOnly _ _)

theorem State.completeNotice_changedOnly (s : State) : s.changedOnly s.completeNotice [.li, .peers] := by
  unfold State.completeNotice
  split
  · exact State.changedOnly_trans
      (State.changedOnly_trans (State.changedOnly_mono (s.setLi_changedOnly _) (by simp))
        (State.changedOnly_mono (State.countLine_changedOnly _ _) (by simp)))
      (State.changedOnly_mono (State.setPeers_changedOnly _ _) (by simp))
  · exact s.changedOnly_refl _

theorem State.collide_changedOnly (s : State) : s.changedOnly s.collide [.li] := by
  unfold State.collide
  split
  · exact s.setLi_changedOnly _
  · exact s.changedOnly_refl _
  · exact s.changedOnly_refl _
  · exact s.changedOnly_refl _

theorem State.endJam_changedOnly (s : State) : s.changedOnly s.endJam [.li, .draws, .port] := by
  have hcount := State.changedOnly_mono (cs := [.li, .draws, .port])
    (s.countLine_changedOnly LineCounters.incCollisions) (by simp)
  unfold State.endJam
  split
  · split
    · exact State.changedOnly_trans hcount
        (State.changedOnly_trans (State.changedOnly_mono (State.setLi_changedOnly _ _) (by simp))
          (State.changedOnly_mono (State.setDraws_changedOnly _ _) (by simp)))
    · exact State.changedOnly_trans hcount
        (State.changedOnly_trans
          (State.changedOnly_trans (State.changedOnly_mono (State.setLi_changedOnly _ _) (by simp))
            (State.changedOnly_mono (State.countLine_changedOnly _ _) (by simp)))
          (State.changedOnly_mono (State.setFlag_changedOnly _ _) (by simp)))
  · exact s.changedOnly_refl _

theorem State.endBackoff_changedOnly (s : State) : s.changedOnly s.endBackoff [.li] := by
  unfold State.endBackoff
  split
  · exact s.setLi_changedOnly _
  · exact s.changedOnly_refl _
  · exact s.changedOnly_refl _
  · exact s.changedOnly_refl _

/-- What a received frame can write. -/
def frameBlocks : List Block := [.ctl, .bays, .li, .peers, .totes, .dev, .port, .draws]

theorem State.countCrcBad_changedOnly (s : State) : s.changedOnly s.countCrcBad [.li, .port] := by
  have hcount := State.changedOnly_mono (cs := [.li, .port]) (s.countLine_changedOnly LineCounters.incCrcBad) (by simp)
  unfold State.countCrcBad
  dsimp only
  split
  · exact State.changedOnly_trans hcount
      (State.changedOnly_trans (State.changedOnly_mono (State.setLi_changedOnly _ _) (by simp))
        (State.changedOnly_mono (State.setFlag_changedOnly _ _) (by simp)))
  · exact hcount

theorem State.mute_changedOnly (s : State) : s.changedOnly s.mute [.ctl, .bays, .li, .dev, .port, .draws] := by
  unfold State.mute
  split
  · exact s.changedOnly_refl _
  · exact State.changedOnly_trans (State.changedOnly_mono (s.setCtl_changedOnly _) (by simp))
      (State.changeMode_changedOnly _ _ _)

theorem State.emptyQueue_changedOnly (s : State) : s.changedOnly s.emptyQueue [.li, .port] := by
  unfold State.emptyQueue
  split
  · exact State.changedOnly_mono (s.setLi_changedOnly _) (by simp)
  · exact State.changedOnly_trans
      (State.changedOnly_trans (State.changedOnly_mono (s.setLi_changedOnly _) (by simp))
        (State.changedOnly_mono (State.countLine_changedOnly _ _) (by simp)))
      (State.changedOnly_mono (State.setFlag_changedOnly _ _) (by simp))

theorem State.clash_changedOnly (s : State) : s.changedOnly s.clash [.ctl, .bays, .li, .dev, .port, .draws] :=
  State.changedOnly_trans
    (State.changedOnly_trans s.mute_changedOnly (State.changedOnly_mono (State.emptyQueue_changedOnly _) (by simp)))
    (State.changedOnly_mono (State.setFlag_changedOnly _ _) (by simp))

theorem State.takeEntries_changedOnly (p : Nat) (es : List DemandEntry) (s : State)
    (taken : List (BitVec 4 × BitVec 4)) : s.changedOnly (s.takeEntries p es taken) [.peers] := by
  induction es generalizing s taken with
  | nil => exact s.changedOnly_refl _
  | cons e es ih =>
    unfold State.takeEntries
    split
    · exact ih _ _
    · exact State.changedOnly_trans (s.insertHeard_changedOnly _) (ih _ _)

theorem State.heardDraw_changedOnly (s : State) (tote : ToteId) (serial : Serial) (item : ItemCode)
    (units remaining : Byte) : s.changedOnly (s.heardDraw tote serial item units remaining) [.totes] := by
  unfold State.heardDraw
  split
  · exact s.changedOnly_refl _
  · split
    · exact s.putEntry_changedOnly _
    · split
      · exact s.putEntry_changedOnly _
      · exact s.putEntry_changedOnly _
      · exact s.changedOnly_refl _

theorem State.heardTally_changedOnly (s : State) (tote : ToteId) (serial : Serial) (item : ItemCode)
    (remaining : Byte) : s.changedOnly (s.heardTally tote serial item remaining) [.totes] := by
  unfold State.heardTally
  split
  · exact s.changedOnly_refl _
  · split
    · exact s.putEntry_changedOnly _
    · split
      · exact s.changedOnly_refl _
      · exact s.putEntry_changedOnly _

theorem State.deliver_changedOnly (s : State) (p : Nat) (sequence : Byte) (payload : Payload) :
    s.changedOnly (s.deliver p sequence payload) [.li, .peers, .totes] := by
  have hroster := State.changedOnly_mono (cs := [.li, .peers, .totes])
    (s.rosterUpdate_changedOnly p payload.isJoin sequence) (by simp)
  unfold State.deliver
  cases payload with
  | join capacity bays revision =>
    exact State.changedOnly_trans hroster
      (State.changedOnly_trans (State.changedOnly_mono (State.removeHeard_changedOnly _ _) (by simp))
        (State.changedOnly_mono (State.offerMarker_changedOnly _) (by simp)))
  | demand entries =>
    exact State.changedOnly_trans hroster
      (State.changedOnly_trans (State.changedOnly_mono (State.removeHeard_changedOnly _ _) (by simp))
        (State.changedOnly_mono (State.takeEntries_changedOnly _ _ _ _) (by simp)))
  | draw tote serial item units remaining =>
    exact State.changedOnly_trans hroster (State.changedOnly_mono (State.heardDraw_changedOnly _ _ _ _ _ _) (by simp))
  | tally tote serial item remaining =>
    exact State.changedOnly_trans hroster (State.changedOnly_mono (State.heardTally_changedOnly _ _ _ _ _) (by simp))

theorem State.takeFrame_changedOnly (s : State) (c : FrameClass) : s.changedOnly (s.takeFrame c) frameBlocks := by
  have hcount (f : LineCounters → LineCounters) : s.changedOnly (s.countLine f) frameBlocks :=
    State.changedOnly_mono (s.countLine_changedOnly f) (by simp [frameBlocks])
  cases c with
  | fragment => exact hcount _
  | crcBad => exact State.changedOnly_mono s.countCrcBad_changedOnly (by simp [frameBlocks])
  | malformed => exact hcount _
  | good sender sequence payload =>
    unfold State.takeFrame State.goodNotice
    dsimp only
    split
    · exact State.changedOnly_trans (hcount _)
        (State.changedOnly_mono (State.clash_changedOnly _) (by simp [frameBlocks]))
    · exact State.changedOnly_trans (hcount _)
        (State.changedOnly_mono (State.deliver_changedOnly _ _ _ _) (by simp [frameBlocks]))

theorem State.receive_changedOnly (s : State) (c : FrameClass) : s.changedOnly (s.receive c) frameBlocks := by
  obtain ⟨-, h⟩ | ⟨-, -, -, h⟩ | ⟨-, -, -, h⟩ := s.receive_cases c
  · rw [h]; exact s.changedOnly_refl _
  · rw [h]; exact State.changedOnly_mono s.seeIdle_changedOnly (by simp [frameBlocks])
  · rw [h]; exact s.takeFrame_changedOnly c

/-! ### All commands -/

theorem State.execReport_changedOnly (s : State) (rule : List Byte → Bool) (open' : Bool)
    (tx : List Byte) (output : State → List Byte) :
    s.changedOnly (s.serve rule open' Reply.refuse tx (reportOwner output)) [.port] :=
  s.serve_changedOnly rule open' _ tx _ [] fun _ t => t.changedOnly_refl _

/-- A command changes the fields it writes and no other. -/
theorem exec_changedOnly {c : Instr} {s t : State} (h : exec c s = .next t) : s.changedOnly t (fieldsWritten c) := by
  cases c with
  | hardReset straps => cases h; exact s.afterReset_changedOnly straps
  | resetLow => cases h; exact s.lowerReset_changedOnly
  | settingsLoad record => cases h; exact State.whileUp_changedOnly (s.endLoad_changedOnly _)
  | settingsLoadTimeout => cases h; exact State.whileUp_changedOnly (s.endLoad_changedOnly _)
  | settleExpiry => cases h; exact State.whileUp_changedOnly s.takeSettle_changedOnly
  | readIdentity tx => cases h; exact State.whileUp_changedOnly (s.execReport_changedOnly _ _ _ _)
  | readStatus tx => cases h; exact State.whileUp_changedOnly (s.execReport_changedOnly _ _ _ _)
  | readClock tx => cases h; exact State.whileUp_changedOnly (s.execReport_changedOnly _ _ _ _)
  | readLane laneFull tx => cases h; exact State.whileUp_changedOnly (s.execReport_changedOnly _ _ _ _)
  | readSettings tx => cases h; exact State.whileUp_changedOnly (s.execReport_changedOnly _ _ _ _)
  | readEvents tx =>
    cases h
    exact State.whileUp_changedOnly (State.changedOnly_mono
      (s.serve_changedOnly _ _ _ tx _ [.port] fun _ t => t.setPort_changedOnly _) (by simp [fieldsWritten]))
  | setEventEnables tx =>
    cases h
    exact State.whileUp_changedOnly (State.changedOnly_mono
      (s.serve_changedOnly _ _ _ tx _ _ enablesOwner_changedOnly) (by simp [fieldsWritten]))
  | loadItems tx =>
    cases h; exact State.whileUp_changedOnly (s.serve_changedOnly _ _ _ tx _ _ loadItemsOwner_changedOnly)
  | removeItem tx =>
    cases h; exact State.whileUp_changedOnly (s.serve_changedOnly _ _ _ tx _ _ removeItemOwner_changedOnly)
  | openBuild tx =>
    cases h
    exact State.whileUp_changedOnly (State.changedOnly_mono
      (s.serve_changedOnly _ _ _ tx _ _ openBuildOwner_changedOnly) (by simp [fieldsWritten]))
  | cancelBuild tx =>
    cases h
    exact State.whileUp_changedOnly (State.changedOnly_mono
      (s.serve_changedOnly _ _ _ tx _ _ cancelBuildOwner_changedOnly) (by simp [fieldsWritten]))
  | sealBuild tx =>
    cases h
    exact State.whileUp_changedOnly (State.changedOnly_mono
      (s.serve_changedOnly _ _ _ tx _ _ sealBuildOwner_changedOnly) (by simp [fieldsWritten]))
  | holdBays tx =>
    cases h
    exact State.whileUp_changedOnly (State.changedOnly_mono
      (s.serve_changedOnly _ _ _ tx _ _ holdBaysOwner_changedOnly) (by simp [fieldsWritten]))
  | releaseBays tx =>
    cases h
    exact State.whileUp_changedOnly (State.changedOnly_mono
      (s.serve_changedOnly _ _ _ tx _ _ releaseBaysOwner_changedOnly) (by simp [fieldsWritten]))
  | readBay tx =>
    cases h; exact State.whileUp_changedOnly (s.serve_changedOnly _ _ _ tx _ _ readBayOwner_changedOnly)
  | confirmPick tx =>
    cases h
    exact State.whileUp_changedOnly (State.changedOnly_mono
      (s.serve_changedOnly _ _ _ tx _ _ confirmPickOwner_changedOnly) (by simp [fieldsWritten, departureBlocks]))
  | returnTote tx =>
    cases h
    exact State.whileUp_changedOnly (State.changedOnly_mono
      (s.serve_changedOnly _ _ _ tx _ _ returnToteOwner_changedOnly) (by simp [fieldsWritten, departureBlocks]))
  | readDeviations tx =>
    cases h; exact State.whileUp_changedOnly (s.serve_changedOnly _ _ _ tx _ _ readDeviationsOwner_changedOnly)
  | clearDeviations tx =>
    cases h
    exact State.whileUp_changedOnly (s.serve_changedOnly _ _ _ tx _ [.dev] fun _ t => t.setDev_changedOnly _)
  | setMode tx =>
    cases h
    exact State.whileUp_changedOnly (State.changedOnly_mono
      (s.serve_changedOnly _ _ _ tx _ _ setModeOwner_changedOnly) (by simp [fieldsWritten]))
  | readPeers tx =>
    cases h; exact State.whileUp_changedOnly (s.serve_changedOnly _ _ _ tx _ _ readPeersOwner_changedOnly)
  | readLineCounters tx =>
    cases h
    exact State.whileUp_changedOnly (s.serve_changedOnly _ _ _ tx _ [.li] fun _ t => t.setLi_changedOnly _)
  | writeSettings tx =>
    cases h; exact State.whileUp_changedOnly (s.serve_changedOnly _ _ _ tx _ _ writeSettingsOwner_changedOnly)
  | writeAccessEnd => cases h; exact State.whileUp_changedOnly s.endWriteAccess_changedOnly
  | writeAccessTimeout => cases h; exact State.whileUp_changedOnly s.timeoutWriteAccess_changedOnly
  | restart straps tx => cases h; exact State.whileUp_changedOnly (s.restartRequest_changedOnly _ _)
  | fetchTransaction clocked => cases h; exact State.whileUp_changedOnly (s.fetch_changedOnly _)
  | tagRead earlier last laneFull =>
    cases h
    exact State.whileUp_changedOnly (State.changedOnly_trans (s.readerActivity_changedOnly _ _)
      (State.readerCharacter_changedOnly _ _ _))
  | shortReaderFrame => cases h; exact State.whileUp_changedOnly s.endShortFrame_changedOnly
  | arrival lowMicros =>
    cases h
    refine State.whileUp_changedOnly ?_
    split
    · exact s.changedOnly_refl _
    · exact s.arrival_changedOnly
  | divertPulseEnd => cases h; exact State.whileUp_changedOnly (s.setLane_changedOnly _)
  | mergePulseEnd => cases h; exact State.whileUp_changedOnly (s.setLane_changedOnly _)
  | divertConfirmExpiry tote => cases h; exact State.whileUp_changedOnly (s.takeConfirmExpiry_changedOnly _)
  | dwellExpiry tote => cases h; exact State.whileUp_changedOnly (s.takeDwell_changedOnly _)
  | chillWindowExpiry bay => cases h; exact State.whileUp_changedOnly (s.takeChill_changedOnly _)
  | deadlineExpiry bay =>
    cases h
    refine State.whileUp_changedOnly ?_
    split
    · exact s.takeDeadline_changedOnly _
    · exact s.changedOnly_refl _
  | substituteWaitExpiry bay line =>
    cases h
    refine State.whileUp_changedOnly ?_
    split
    · exact s.trial_changedOnly _ _
    · exact s.changedOnly_refl _
  | silenceExpiry peer => cases h; exact State.whileUp_changedOnly (s.takeSilence_changedOnly _)
  | refreshExpiry => cases h; exact State.whileUp_changedOnly s.takeRefresh_changedOnly
  | attempt lineIdle => cases h; exact State.whileUp_changedOnly (s.attempt_changedOnly _)
  | noticeComplete => cases h; exact State.whileUp_changedOnly s.completeNotice_changedOnly
  | collision => cases h; exact State.whileUp_changedOnly s.collide_changedOnly
  | jamEnd => cases h; exact State.whileUp_changedOnly s.endJam_changedOnly
  | backoffEnd => cases h; exact State.whileUp_changedOnly s.endBackoff_changedOnly
  | badFrame levels => cases h; exact State.whileUp_changedOnly (s.receive_changedOnly _)
  | joinNotice sender sequence laneCapacity bayCount revision =>
    cases h; exact State.whileUp_changedOnly (s.receive_changedOnly _)
  | demandNotice sender sequence entries => cases h; exact State.whileUp_changedOnly (s.receive_changedOnly _)
  | drawNotice sender sequence tote serial item units remaining =>
    cases h; exact State.whileUp_changedOnly (s.receive_changedOnly _)
  | tallyNotice sender sequence tote serial item remaining =>
    cases h; exact State.whileUp_changedOnly (s.receive_changedOnly _)
  | clockTick => cases h; exact State.whileUp_changedOnly (s.setClock_changedOnly _)
  | unknownRequestCode code tx => cases h; exact State.whileUp_changedOnly (s.unknownRequest_changedOnly _ _)

/-! ## The queue, RESET and the clock -/

/-- Settles O2: the queue is a field no command writes. -/
theorem everyCommandAnswersAndKeepsTheQueue : Obligations.EveryCommandAnswersAndKeepsTheQueue := by
  intro c s
  obtain ⟨t, h⟩ := exec_next c s
  have hwrites : Block.pending ∉ (fieldsWritten c) := by
    cases c <;> simp [fieldsWritten, readerBlocks]
  exact ⟨t, h, exec_changedOnly h .pending hwrites⟩

/-- While RESET is held low every event but a hard reset, and RESET_LOW again, is ignored (R161). -/
theorem exec_of_resetLow {c : Instr} {s : State} (hlow : s.resetLow = true) (hreset : ∀ straps, c ≠ .hardReset straps)
    (hagain : c ≠ .resetLow) : exec c s = .next s := by
  have hignored (f : State → State) : Host.Outcome.next (s.whileUp f) = (.next s : Host.Outcome State Fault Refusal) :=
    by rw [State.whileUp_of_low f hlow]
  cases c with
  | hardReset straps => exact absurd rfl (hreset straps)
  | resetLow => exact absurd rfl hagain
  | _ => exact hignored _

/-- Settles O3. -/
theorem resetHeldLowDrivesThePinsAndTakesNoEvent : Obligations.ResetHeldLowDrivesThePinsAndTakesNoEvent :=
  ⟨fun _ => rfl, fun _ _ hlow hreset hagain => exec_of_resetLow hlow hreset hagain⟩

/-- Settles O4: the cleared blocks of the model are the values written out. -/
theorem hardResetSetsEveryBlock : Obligations.HardResetSetsEveryBlock := fun _ _ => rfl

/-- Only a hard reset and a tick write the clock (R159). -/
theorem exec_clock {c : Instr} {s t : State} (hreset : ∀ straps, c ≠ .hardReset straps) (htick : c ≠ .clockTick)
    (h : exec c s = .next t) : t.clock = s.clock := by
  have hwrites : Block.clock ∉ (fieldsWritten c) := by
    cases c with
    | hardReset straps => exact absurd rfl (hreset straps)
    | clockTick => exact absurd rfl htick
    | _ => simp [fieldsWritten, readerBlocks]
  exact exec_changedOnly h .clock hwrites

theorem exec_clockTick {s : State} (hup : s.resetLow = false) :
    exec .clockTick s = .next (s.setClock (min (s.clock + 1) 4294967295)) := by
  change Host.Outcome.next (s.whileUp _) = _
  rw [State.whileUp_of_up _ hup]
  rfl

/-- Settles O6: the tick by its equation, and every other command by the fields it writes. -/
theorem clockRisesByTicksAndNeverFalls : Obligations.ClockRisesByTicksAndNeverFalls := by
  refine ⟨fun s hup => exec_clockTick hup, fun c s t => exec_clock, fun c s t hreset hmax h => ?_⟩
  by_cases htick : c = .clockTick
  · subst htick
    cases hup : s.resetLow with
    | true =>
      rw [exec_of_resetLow hup (by simp) (by simp)] at h
      cases h
      omega
    | false =>
      rw [exec_clockTick hup] at h
      cases h
      rw [State.setClock_clock]
      omega
  · have hclock := exec_clock hreset htick h
    omega

end Sys2Proof.Machine

/-! PROOF. What every operation but the bench port's own does to the port and to the deviation table: it sets event flags
and adds records, and touches neither otherwise (R153, R180, R181). -/

namespace Sys2Proof.Machine

/-! ## Flags set at the port -/

/-- `p'` is `p` after some of these flags are set. -/
def BenchPort.raisedTo (p p' : BenchPort) (fs : List EventFlag) : Prop :=
  ∃ gs : List EventFlag, (∀ g ∈ gs, g ∈ fs) ∧ p' = gs.foldl BenchPort.setFlag p

theorem BenchPort.raisedTo_refl (p : BenchPort) (fs : List EventFlag) : p.raisedTo p fs := ⟨[], by simp, rfl⟩

theorem BenchPort.raisedTo_trans {p q r : BenchPort} {fs : List EventFlag} (h : p.raisedTo q fs)
    (k : q.raisedTo r fs) : p.raisedTo r fs := by
  obtain ⟨gs, hg, rfl⟩ := h
  obtain ⟨ks, hk, rfl⟩ := k
  exact ⟨gs ++ ks, fun g hm => (List.mem_append.mp hm).elim (hg g) (hk g), List.foldl_append.symm⟩

theorem BenchPort.raisedTo_mono {p q : BenchPort} {fs gs : List EventFlag} (h : p.raisedTo q fs)
    (hsub : ∀ f ∈ fs, f ∈ gs) : p.raisedTo q gs := by
  obtain ⟨ks, hk, rfl⟩ := h
  exact ⟨ks, fun f hf => hsub f (hk f hf), rfl⟩

theorem BenchPort.setFlag_raisedTo (p : BenchPort) (f : EventFlag) : p.raisedTo (p.setFlag f) [f] :=
  ⟨[f], by simp, rfl⟩

/-- What holds of a port and is kept by setting a flag holds after some are set. -/
theorem BenchPort.raisedTo.induct {Q : BenchPort → Prop} {p p' : BenchPort} {fs : List EventFlag}
    (h : p.raisedTo p' fs) (hflag : ∀ q f, f ∈ fs → Q q → Q (q.setFlag f)) (hp : Q p) : Q p' := by
  obtain ⟨gs, hg, rfl⟩ := h
  induction gs generalizing p with
  | nil => exact hp
  | cons g gs ih => exact ih (hflag p g (hg g (by simp)) hp) fun f hf => hg f (by simp [hf])

theorem BenchPort.raisedTo.keepsReply {p p' : BenchPort} {fs : List EventFlag} (h : p.raisedTo p' fs) :
    p.keepsReply p' :=
  h.induct (Q := p.keepsReply)
    (fun q f _ hq => BenchPort.keepsReply_trans hq (BenchPort.setFlag_keepsReply q f)) (BenchPort.keepsReply_refl p)

theorem BenchPort.raisedTo.onlyRaises {p p' : BenchPort} {fs : List EventFlag} (h : p.raisedTo p' fs) :
    p.onlyRaises p' fs :=
  h.induct (Q := fun q => p.onlyRaises q fs)
    (fun q f hf hq => BenchPort.onlyRaises_trans hq
      (BenchPort.onlyRaises_mono (BenchPort.setFlag_onlyRaises q f) (by simpa using hf)))
    (BenchPort.onlyRaises_refl p fs)

/-- Every flag that stood stands. -/
theorem BenchPort.raisedTo.isSet {p p' : BenchPort} {fs : List EventFlag} (h : p.raisedTo p' fs) {f : EventFlag}
    (hf : f.isSet p = true) : f.isSet p' = true := by
  obtain ⟨-, -, hkept, -⟩ := h.onlyRaises
  exact hkept f hf

/-- A flag that is not among those named stands as it stood. -/
theorem BenchPort.raisedTo.isSet_eq {p p' : BenchPort} {fs : List EventFlag} (h : p.raisedTo p' fs) {f : EventFlag}
    (hf : f ∉ fs) : f.isSet p' = f.isSet p := by
  obtain ⟨-, -, hkept, hnew⟩ := h.onlyRaises
  rw [Bool.eq_iff_iff]
  exact ⟨fun hset => (hnew f hset).resolve_right hf, hkept f⟩

/-! ## Flags set and records made -/

/-- From `s` to `t` nothing happens at the port but that some of these flags are set, nothing in the deviation table but
that records are made at now, and RESET and the clock stay. -/
structure State.loggedTo (s t : State) (fs : List EventFlag) : Prop where
  clock : t.clock = s.clock
  resetLow : t.resetLow = s.resetLow
  port : s.port.raisedTo t.port fs
  dev : ∃ ks : List DeviationKind, t.dev = ks.foldl (fun d k => d.add s.clock k) s.dev

theorem State.loggedTo_refl (s : State) (fs : List EventFlag) : s.loggedTo s fs :=
  ⟨rfl, rfl, BenchPort.raisedTo_refl _ _, [], rfl⟩

theorem State.loggedTo.trans {s t u : State} {fs : List EventFlag} (h : s.loggedTo t fs) (k : t.loggedTo u fs) :
    s.loggedTo u fs := by
  obtain ⟨hc, hr, hp, xs, hd⟩ := h
  obtain ⟨kc, kr, kp, ys, kd⟩ := k
  refine ⟨kc.trans hc, kr.trans hr, BenchPort.raisedTo_trans hp kp, xs ++ ys, ?_⟩
  rw [kd, hd, hc, List.foldl_append]

theorem State.loggedTo.mono {s t : State} {fs gs : List EventFlag} (h : s.loggedTo t fs)
    (hsub : ∀ f ∈ fs, f ∈ gs) : s.loggedTo t gs :=
  ⟨h.clock, h.resetLow, BenchPort.raisedTo_mono h.port hsub, h.dev⟩

theorem State.loggedTo_foldl {α : Type} {fs : List EventFlag} (f : State → α → State)
    (hf : ∀ (s : State) (a : α), s.loggedTo (f s a) fs) : ∀ (xs : List α) (s : State), s.loggedTo (xs.foldl f s) fs
  | [], s => s.loggedTo_refl fs
  | x :: xs, s => (hf s x).trans (State.loggedTo_foldl f hf xs (f s x))

/-- What leaves the port, the deviation table, RESET and the clock alone logs nothing. -/
theorem State.loggedTo_of_changedOnly {s t : State} {bs : List Block} (h : s.changedOnly t bs)
    (hbs : .clock ∉ bs ∧ .resetLow ∉ bs ∧ .port ∉ bs ∧ .dev ∉ bs) (fs : List EventFlag) : s.loggedTo t fs := by
  obtain ⟨hclock, hreset, hport, hdev⟩ := hbs
  refine ⟨h .clock hclock, h .resetLow hreset, ?_, [], h .dev hdev⟩
  rw [show t.port = s.port from h .port hport]
  exact BenchPort.raisedTo_refl _ _

theorem State.setFlag_loggedTo (s : State) (f : EventFlag) : s.loggedTo (s.setFlag f) [f] :=
  ⟨rfl, rfl, BenchPort.setFlag_raisedTo _ _, [], rfl⟩

theorem State.record_loggedTo (s : State) (k : DeviationKind) : s.loggedTo (s.record k) [.deviation] :=
  ⟨rfl, rfl, BenchPort.setFlag_raisedTo _ _, [k], rfl⟩

theorem State.changeCheck_loggedTo (s : State) (fs : List EventFlag) : s.loggedTo s.changeCheck fs :=
  State.loggedTo_of_changedOnly s.changeCheck_changedOnly (by simp) fs

theorem State.setBay_loggedTo (s : State) (b : BayNo) (x : Option Build) (fs : List EventFlag) :
    s.loggedTo (s.setBay b x) fs := State.loggedTo_of_changedOnly (s.setBay_changedOnly b x) (by simp) fs

theorem State.setLane_loggedTo (s : State) (v : Lane) (fs : List EventFlag) : s.loggedTo (s.setLane v) fs :=
  State.loggedTo_of_changedOnly (s.setLane_changedOnly v) (by simp) fs

theorem State.countLine_loggedTo (s : State) (f : LineCounters → LineCounters) (fs : List EventFlag) :
    s.loggedTo (s.countLine f) fs := State.loggedTo_of_changedOnly (s.countLine_changedOnly f) (by simp) fs

theorem State.setLi_loggedTo (s : State) (v : LineInterface) (fs : List EventFlag) : s.loggedTo (s.setLi v) fs :=
  State.loggedTo_of_changedOnly (s.setLi_changedOnly v) (by simp) fs

theorem State.setLoader_loggedTo (s : State) (v : Loader) (fs : List EventFlag) : s.loggedTo (s.setLoader v) fs :=
  State.loggedTo_of_changedOnly (s.setLoader_changedOnly v) (by simp) fs

theorem State.offerTally_loggedTo (s : State) (p : Payload) : s.loggedTo (s.offerTally p) [.noticeLost] := by
  unfold State.offerTally
  split
  · exact s.countLine_loggedTo _ _
  · split
    · exact s.setLi_loggedTo _ _
    · exact (s.countLine_loggedTo _ _).trans (State.setFlag_loggedTo _ _)

/-! ## Trials, modes and departures -/

theorem State.trial_loggedTo (s : State) (b : BayNo) (i : Nat) : s.loggedTo (s.trial b i) [.deviation] := by
  have hline (f : Line → Line) : s.loggedTo (s.modifyLine b i f) [.deviation] :=
    State.loggedTo_of_changedOnly (s.modifyLine_changedOnly b i f) (by simp) _
  unfold State.trial
  split
  · exact s.loggedTo_refl _
  · split
    · exact s.loggedTo_refl _
    · split
      · exact ((hline _).trans (State.record_loggedTo _ _)).trans (State.changeCheck_loggedTo _ _)
      · unfold State.noFit
        dsimp only
        split
        · exact hline _
        · exact (hline _).trans (State.record_loggedTo _ _)

theorem State.trials_loggedTo (s : State) (xs : List (BayNo × Nat)) : s.loggedTo (s.trials xs) [.deviation] := by
  unfold State.trials
  split
  · exact s.loggedTo_refl _
  · exact s.trial_loggedTo _ _
  · exact (State.loggedTo_of_changedOnly (s.setDraws_changedOnly _) (by simp) _).trans
      (State.loggedTo_foldl _ (fun (t : State) (x : BayNo × Nat) => t.trial_loggedTo x.1 x.2) _ _)

theorem State.reevaluate_loggedTo (s : State) (bs : List BayNo) : s.loggedTo (s.reevaluate bs) [.deviation] :=
  (State.loggedTo_of_changedOnly (s.evalBays_changedOnly bs) (by simp) _).trans (State.trials_loggedTo _ _)

/-- The steps of R165 after the mode is replaced. -/
theorem State.afterMode_loggedTo (s : State) (m : Mode) :
    s.loggedTo ((s.withMode m).reevaluate allBays).changeCheck [.deviation] :=
  ((State.loggedTo_of_changedOnly (s.setCtl_changedOnly _) (by simp) _).trans
    (State.reevaluate_loggedTo _ _)).trans (State.changeCheck_loggedTo _ _)

theorem State.changeMode_loggedTo (s : State) (m : Mode) (bySetMode : Bool) :
    s.loggedTo (s.changeMode m bySetMode) [.deviation, .modeChanged] := by
  have h := (s.afterMode_loggedTo m).mono (gs := [.deviation, .modeChanged]) (by simp)
  unfold State.changeMode
  dsimp only
  split
  · exact h
  · exact h.trans ((State.setFlag_loggedTo _ _).mono (by simp))

theorem State.closingCheck_loggedTo (s : State) : s.loggedTo s.closingCheck [.deviation, .modeChanged] := by
  unfold State.closingCheck
  split
  · exact s.changeMode_loggedTo _ _
  · exact s.loggedTo_refl _

theorem State.returnToEmpty_loggedTo (s : State) (b : BayNo) :
    s.loggedTo (s.returnToEmpty b) [.deviation, .modeChanged] :=
  ((s.setBay_loggedTo _ _ _).trans (State.changeCheck_loggedTo _ _)).trans (State.closingCheck_loggedTo _)

theorem State.endDeparture_loggedTo (s : State) (l : LaneEntry) :
    s.loggedTo (s.endDeparture l) [.deviation, .modeChanged] :=
  (((s.setLane_loggedTo _ _).trans ((State.reevaluate_loggedTo _ _).mono (by simp))).trans
    (State.changeCheck_loggedTo _ _)).trans (State.closingCheck_loggedTo _)

theorem State.settle_loggedTo (s : State) (l : LaneEntry) (f : ToteEntry → ToteEntry) :
    s.loggedTo (s.settle l f) [.noticeLost] := by
  unfold State.settle
  split
  · exact s.loggedTo_refl _
  · exact (State.loggedTo_of_changedOnly (s.setTable_changedOnly _) (by simp) _).trans (State.offerTally_loggedTo _ _)

/-! ## Bays -/

theorem State.takeDeadline_loggedTo (s : State) (b : BayNo) : s.loggedTo (s.takeDeadline b) [.deviation] := by
  unfold State.takeDeadline
  split
  · exact s.loggedTo_refl _
  · split
    · exact s.setBay_loggedTo _ _ _
    · exact (s.setBay_loggedTo _ _ _).trans (State.record_loggedTo _ _)

theorem State.checkCompletion_loggedTo (s : State) (b : BayNo) : s.loggedTo (s.checkCompletion b) [.bayReady] := by
  unfold State.checkCompletion
  split
  · exact s.loggedTo_refl _
  · dsimp only
    split
    · exact (s.setBay_loggedTo _ _ _).trans (State.setFlag_loggedTo _ _)
    · exact s.setBay_loggedTo _ _ _

theorem State.bayStep_loggedTo (xs : List (Allocation × Nat)) (s : State) (b : BayNo) :
    s.loggedTo (State.bayStep xs s b) [.bayReady] :=
  (State.loggedTo_of_changedOnly (s.modifyBuild_changedOnly _ _) (by simp) _).trans
    (State.checkCompletion_loggedTo _ b)

theorem State.placePick_loggedTo (s : State) (e : LaneEntry) (taken : List Nat) :
    s.loggedTo (s.placePick e taken) [.bayReady] :=
  (State.loggedTo_of_changedOnly (State.changedOnly_foldl _ State.place_changedOnly _ s) (by simp) _).trans
    (State.loggedTo_foldl _ (State.bayStep_loggedTo _) _ _)

theorem State.settleShort_loggedTo (s : State) (e : LaneEntry) (taken : Nat) :
    s.loggedTo (s.settleShort e taken) [.noticeLost, .deviation] := by
  unfold State.settleShort
  split
  · exact ((s.settle_loggedTo _ _).mono (by simp)).trans ((State.record_loggedTo _ _).mono (by simp))
  · exact s.loggedTo_refl _

theorem State.confirmPick_loggedTo (s : State) (e : LaneEntry) (taken : List Nat) :
    s.loggedTo (s.confirmPick e taken) [.bayReady, .deviation, .noticeLost, .modeChanged] :=
  ((((s.placePick_loggedTo e taken).mono (by simp)).trans ((State.settleShort_loggedTo _ _ _).mono (by simp))).trans
    (State.setLane_loggedTo _ _ _)).trans ((State.endDeparture_loggedTo _ _).mono (by simp))

theorem State.unpinAll_loggedTo (s : State) (as : List Allocation) (fs : List EventFlag) :
    s.loggedTo (s.unpinAll as) fs := State.loggedTo_of_changedOnly (s.unpinAll_changedOnly as) (by simp) fs

theorem State.returnTote_loggedTo (s : State) (e : LaneEntry) :
    s.loggedTo (s.returnTote e) [.deviation, .noticeLost, .modeChanged] :=
  (((s.unpinAll_loggedTo _ _).trans ((State.settle_loggedTo _ _ _).mono (by simp))).trans
    (State.setLane_loggedTo _ _ _)).trans ((State.endDeparture_loggedTo _ _).mono (by simp))

theorem State.missDivert_loggedTo (s : State) (e : LaneEntry) :
    s.loggedTo (s.missDivert e) [.deviation, .divertMissed, .noticeLost, .modeChanged] :=
  ((((s.unpinAll_loggedTo _ _).trans ((State.settle_loggedTo _ _ _).mono (by simp))).trans
    ((State.record_loggedTo _ _).mono (by simp))).trans ((State.setFlag_loggedTo _ _).mono (by simp))).trans
    ((State.endDeparture_loggedTo _ _).mono (by simp))

theorem State.takeConfirmExpiry_loggedTo (s : State) (tote : ToteId) :
    s.loggedTo (s.takeConfirmExpiry tote) [.deviation, .divertMissed, .noticeLost, .modeChanged] := by
  unfold State.takeConfirmExpiry
  split
  · exact s.loggedTo_refl _
  · exact s.missDivert_loggedTo _

theorem State.takeChill_loggedTo (s : State) (b : BayNo) : s.loggedTo (s.takeChill b) [.deviation] := by
  unfold State.takeChill
  split
  · exact s.loggedTo_refl _
  · dsimp only
    split_ifs
    · exact s.loggedTo_refl _
    · exact (s.record_loggedTo _).trans (State.setBay_loggedTo _ _ _ _)
    · exact (((s.record_loggedTo _).trans (State.setBay_loggedTo _ _ _ _)).trans
        (State.reevaluate_loggedTo _ _)).trans (State.changeCheck_loggedTo _ _)

theorem State.openBuild_loggedTo (s : State) (b : BayNo) (p : BuildParams) :
    s.loggedTo (s.openBuild b p) [.deviation] := by
  have hopen : s.loggedTo ((s.setBay b (some (s.newBuild p))).evalBays [b]) [.deviation] :=
    (s.setBay_loggedTo _ _ _).trans (State.loggedTo_of_changedOnly (State.evalBays_changedOnly _ _) (by simp) _)
  refine (hopen.trans ?_).trans (State.changeCheck_loggedTo _ _)
  unfold State.deadlineAtOnce
  split
  · exact State.takeDeadline_loggedTo _ _
  · exact State.loggedTo_refl _ _

theorem State.releaseBay_loggedTo (s : State) (b : BayNo) : s.loggedTo (s.releaseBay b) [.bayReady] := by
  unfold State.releaseBay
  split
  · exact s.loggedTo_refl _
  · dsimp only
    split
    · exact (s.setBay_loggedTo _ _ _).trans (State.setFlag_loggedTo _ _)
    · exact s.setBay_loggedTo _ _ _

theorem State.afterBayChanges_loggedTo (s : State) (bs : List BayNo) :
    s.loggedTo (s.afterBayChanges bs) [.deviation] := by
  unfold State.afterBayChanges
  split
  · exact s.loggedTo_refl _
  · exact (s.reevaluate_loggedTo _).trans (State.changeCheck_loggedTo _ _)

/-! ## Owners of requests -/

theorem openBuildOwner_loggedTo (block : List Byte) (s : State) :
    s.loggedTo (openBuildOwner block s).1 [.deviation] := by
  unfold openBuildOwner
  dsimp only
  split
  · exact s.loggedTo_refl _
  · split
    · exact s.loggedTo_refl _
    · split
      · exact s.loggedTo_refl _
      · exact s.openBuild_loggedTo _ _

theorem cancelBuildOwner_loggedTo (block : List Byte) (s : State) :
    s.loggedTo (cancelBuildOwner block s).1 [.deviation, .modeChanged] := by
  unfold cancelBuildOwner
  split
  · exact s.loggedTo_refl _
  · split
    · exact s.loggedTo_refl _
    · split
      · exact s.loggedTo_refl _
      · exact s.returnToEmpty_loggedTo _

theorem sealBuildOwner_loggedTo (block : List Byte) (s : State) :
    s.loggedTo (sealBuildOwner block s).1 [.deviation, .modeChanged] := by
  unfold sealBuildOwner
  split
  · exact s.loggedTo_refl _
  · split
    · exact s.loggedTo_refl _
    · split
      · exact s.loggedTo_refl _
      · exact s.returnToEmpty_loggedTo _

theorem holdBaysOwner_loggedTo (block : List Byte) (s : State) :
    s.loggedTo (holdBaysOwner block s).1 [.deviation] :=
  (State.loggedTo_of_changedOnly
    (State.changedOnly_foldl _ (fun (t : State) b => t.modifyBuild_changedOnly b Build.hold) _ s) (by simp) _).trans
    (State.afterBayChanges_loggedTo _ _)

theorem releaseBaysOwner_loggedTo (block : List Byte) (s : State) :
    s.loggedTo (releaseBaysOwner block s).1 [.bayReady, .deviation] :=
  ((State.loggedTo_foldl _ State.releaseBay_loggedTo _ s).mono (by simp)).trans
    ((State.afterBayChanges_loggedTo _ _).mono (by simp))

theorem confirmPickOwner_loggedTo (block : List Byte) (s : State) :
    s.loggedTo (confirmPickOwner block s).1 [.bayReady, .deviation, .noticeLost, .modeChanged] := by
  unfold confirmPickOwner
  split
  · exact s.loggedTo_refl _
  · split
    · exact s.loggedTo_refl _
    · exact s.confirmPick_loggedTo _ _

theorem returnToteOwner_loggedTo (block : List Byte) (s : State) :
    s.loggedTo (returnToteOwner block s).1 [.deviation, .noticeLost, .modeChanged] := by
  unfold returnToteOwner
  split
  · exact s.loggedTo_refl _
  · exact s.returnTote_loggedTo _

theorem State.acceptMode_loggedTo (s : State) (m : Mode) :
    s.loggedTo (s.acceptMode m) [.deviation, .modeChanged] := by
  unfold State.acceptMode
  split_ifs
  · exact s.loggedTo_refl _
  · exact (s.changeMode_loggedTo _ _).trans (State.closingCheck_loggedTo _)
  · exact s.changeMode_loggedTo _ _

theorem setModeOwner_loggedTo (block : List Byte) (s : State) :
    s.loggedTo (setModeOwner block s).1 [.deviation, .modeChanged] := by
  unfold setModeOwner
  split
  · exact s.loggedTo_refl _
  · split
    · exact s.loggedTo_refl _
    · exact s.acceptMode_loggedTo _

/-! ## Events -/

theorem State.takeSettle_loggedTo (s : State) : s.loggedTo s.takeSettle [.deviation, .modeChanged] := by
  unfold State.takeSettle
  split
  · exact (State.loggedTo_of_changedOnly (s.setCtl_changedOnly _) (by simp) _).trans
      (State.changeMode_loggedTo _ _ _)
  · exact s.loggedTo_refl _

theorem State.endWriteAccess_loggedTo (s : State) : s.loggedTo s.endWriteAccess [.settingsWritten] := by
  unfold State.endWriteAccess
  split
  · exact s.setLoader_loggedTo _ _
  · exact (s.setLoader_loggedTo _ _).trans (State.setFlag_loggedTo _ _)
  · exact s.loggedTo_refl _
  · exact s.loggedTo_refl _

theorem State.timeoutWriteAccess_loggedTo (s : State) : s.loggedTo s.timeoutWriteAccess [.settingsFailed] := by
  unfold State.timeoutWriteAccess
  split
  · exact (s.setLoader_loggedTo _ _).trans (State.setFlag_loggedTo _ _)
  · exact s.loggedTo_refl _
  · exact s.loggedTo_refl _

theorem State.arrival_loggedTo (s : State) : s.loggedTo s.arrival [.toteAtBench, .unexpectedArrival] := by
  unfold State.arrival
  split
  · exact (s.setLane_loggedTo _ _).trans ((State.setFlag_loggedTo _ _).mono (by simp))
  · exact (s.setLane_loggedTo _ _).trans ((State.setFlag_loggedTo _ _).mono (by simp))

theorem State.takeDwell_loggedTo (s : State) (tote : ToteId) : s.loggedTo (s.takeDwell tote) [.laneStale] := by
  unfold State.takeDwell
  split
  · exact (s.setLane_loggedTo _ _).trans (State.setFlag_loggedTo _ _)
  · exact s.loggedTo_refl _

theorem State.endJam_loggedTo (s : State) : s.loggedTo s.endJam [.noticeLost] := by
  have hcount := s.countLine_loggedTo LineCounters.incCollisions [.noticeLost]
  unfold State.endJam
  split
  · split
    · exact (hcount.trans (State.setLi_loggedTo _ _ _)).trans
        (State.loggedTo_of_changedOnly (State.setDraws_changedOnly _ _) (by simp) _)
    · exact ((hcount.trans (State.setLi_loggedTo _ _ _)).trans (State.countLine_loggedTo _ _ _)).trans
        (State.setFlag_loggedTo _ _)
  · exact s.loggedTo_refl _

theorem State.countCrcBad_loggedTo (s : State) : s.loggedTo s.countCrcBad [.lineDegraded] := by
  have hcount := s.countLine_loggedTo LineCounters.incCrcBad [.lineDegraded]
  unfold State.countCrcBad
  dsimp only
  split
  · exact (hcount.trans (State.setLi_loggedTo _ _ _)).trans (State.setFlag_loggedTo _ _)
  · exact hcount

theorem State.clash_loggedTo (s : State) :
    s.loggedTo s.clash [.deviation, .modeChanged, .noticeLost, .stationClash] := by
  have hmute : s.loggedTo s.mute [.deviation, .modeChanged, .noticeLost, .stationClash] := by
    unfold State.mute
    split
    · exact s.loggedTo_refl _
    · exact (State.loggedTo_of_changedOnly (s.setCtl_changedOnly _) (by simp) _).trans
        ((State.changeMode_loggedTo _ _ _).mono (by simp))
  have hempty (t : State) : t.loggedTo t.emptyQueue [.deviation, .modeChanged, .noticeLost, .stationClash] := by
    unfold State.emptyQueue
    split
    · exact t.setLi_loggedTo _ _
    · exact ((t.setLi_loggedTo _ _).trans (State.countLine_loggedTo _ _ _)).trans
        ((State.setFlag_loggedTo _ _).mono (by simp))
  exact (hmute.trans (hempty _)).trans ((State.setFlag_loggedTo _ _).mono (by simp))

/-- The flags that a received frame can set. -/
def frameFlags : List EventFlag := [.deviation, .modeChanged, .noticeLost, .stationClash, .lineDegraded]

theorem State.receive_loggedTo (s : State) (c : FrameClass) : s.loggedTo (s.receive c) frameFlags := by
  have htaken : s.loggedTo (s.takeFrame c) frameFlags := by
    cases c with
    | fragment => exact s.countLine_loggedTo _ _
    | crcBad => exact s.countCrcBad_loggedTo.mono (by simp [frameFlags])
    | malformed => exact s.countLine_loggedTo _ _
    | good sender sequence payload =>
      unfold State.takeFrame State.goodNotice
      dsimp only
      split
      · exact (s.countLine_loggedTo _ _).trans ((State.clash_loggedTo _).mono (by simp [frameFlags]))
      · exact (s.countLine_loggedTo _ _).trans
          (State.loggedTo_of_changedOnly (State.deliver_changedOnly _ _ _ _) (by simp) _)
  obtain ⟨-, h⟩ | ⟨-, -, -, h⟩ | ⟨-, -, -, h⟩ := s.receive_cases c
  · rw [h]; exact s.loggedTo_refl _
  · rw [h]; exact State.loggedTo_of_changedOnly s.seeIdle_changedOnly (by simp) _
  · rw [h]; exact htaken

theorem State.divert_loggedTo (s : State) (e : ToteEntry) (as : List Allocation) :
    s.loggedTo (s.divert e as) [.deviation] :=
  ((((s.setLane_loggedTo _ _).trans
    (State.loggedTo_of_changedOnly (State.changedOnly_foldl _ State.pin_changedOnly as _) (by simp) _)).trans
    (State.reevaluate_loggedTo _ _)).trans
    (State.loggedTo_of_changedOnly (State.putEntry_changedOnly _ _) (by simp) _)).trans
    (State.changeCheck_loggedTo _ _)

theorem State.shareDecision_loggedTo (s : State) (laneFull : Bool) (e : ToteEntry) :
    s.loggedTo (s.shareDecision laneFull e) [.deviation] := by
  unfold State.shareDecision
  split
  · exact s.loggedTo_refl _
  · split
    · exact s.loggedTo_refl _
    · next u h =>
      obtain ⟨-, q, -, rfl⟩ := State.offerDraw_some h
      exact (s.setLi_loggedTo _ _).trans (State.divert_loggedTo _ _ _)

theorem State.readerCharacter_loggedTo (s : State) (laneFull : Bool) (c : ReaderChar) :
    s.loggedTo (s.readerCharacter laneFull c) [.deviation] := by
  have hdecoder (t : State) (d : ReaderDecoder) : t.loggedTo (t.setDecoder d) [.deviation] :=
    State.loggedTo_of_changedOnly (t.setDecoder_changedOnly d) (by simp) _
  have hframe (t : State) (frame : List ReaderChar) : t.loggedTo (t.readerFrame frame laneFull) [.deviation] := by
    unfold State.readerFrame
    split
    · exact State.loggedTo_of_changedOnly t.malformedRead_changedOnly (by simp) _
    · split
      · exact State.loggedTo_of_changedOnly (t.setTotes_changedOnly _) (by simp) _
      · exact ((State.loggedTo_of_changedOnly (t.setTotes_changedOnly _) (by simp) _).trans
          (State.loggedTo_of_changedOnly (State.putEntry_changedOnly _ _) (by simp) _)).trans
          (State.shareDecision_loggedTo _ _ _)
  unfold State.readerCharacter
  split
  · exact s.loggedTo_refl _
  · exact s.loggedTo_refl _
  · split
    · exact hdecoder _ _
    · exact (hdecoder _ _).trans (hframe _ _)
  · exact hdecoder _ _

theorem State.readerActivity_loggedTo (s : State) (activity : List ReaderEvent) (laneFull : Bool) :
    s.loggedTo (s.readerActivity activity laneFull) [.deviation] :=
  State.loggedTo_foldl _
    (fun t e => by
      cases e with
      | idle => exact State.loggedTo_of_changedOnly t.readerIdle_changedOnly (by simp) _
      | character c => exact t.readerCharacter_loggedTo laneFull c) activity s

end Sys2Proof.Machine

/-! PROOF. ATTN, READY and the deviation table (R153, R154, R173, R181): what a request keeps that its owner keeps, what
every command keeps that setting flags and making records keep, and the four invariants from that. -/

namespace Sys2Proof.Machine

/-! ## Requests -/

/-- All that a request can do: be ignored, be refused by a check of R175, or reach its owner (R173 to R175). -/
theorem State.serve_cases (s : State) (rule : List Byte → Bool) (open' : Bool) (refusal : Status → Reply)
    (tx : List Byte) (owner : List Byte → State → State × Reply) :
    s.serve rule open' refusal tx owner = s.ignoreTransaction tx.length
      ∨ (∃ st, s.serve rule open' refusal tx owner = (s.beginRequest tx.length).finishRequest (refusal st))
      ∨ ∃ block, rule block = true ∧ (s.ctl.mode ≠ .loading ∨ open' = true)
        ∧ s.serve rule open' refusal tx owner
          = (owner block (s.beginRequest tx.length)).1.finishRequest (owner block (s.beginRequest tx.length)).2 := by
  unfold State.serve
  split
  · exact .inl rfl
  · split
    · next st _ => exact .inr (.inl ⟨st, rfl⟩)
    · next block h =>
      refine .inr (.inr ⟨block, ?_, ?_, rfl⟩)
      · unfold checkRequest at h
        split at h
        · cases h
        · split_ifs at h with _ hr _
          cases h
          simpa using hr
      · unfold checkRequest at h
        split at h
        · cases h
        · split_ifs at h with _ _ hclosed
          rw [Bool.and_eq_true, not_and_or] at hclosed
          simpa using hclosed

/-- What the steps of the bench port keep (R173, R174). -/
structure PortKeeps (P : State → Prop) : Prop where
  ignored : ∀ {s : State} (n : Nat), P s → P (s.ignoreTransaction n)
  begun : ∀ {s : State} (n : Nat), P s → P (s.beginRequest n)
  finished : ∀ {s : State} (r : Reply), P s → P (s.finishRequest r)

/-- A request keeps what the steps of the bench port and its owner keep. -/
theorem State.serve_keeps {P : State → Prop} (hport : PortKeeps P) {s : State} {rule : List Byte → Bool} {open' : Bool}
    {refusal : Status → Reply} {tx : List Byte} {owner : List Byte → State → State × Reply}
    (howner : ∀ (block : List Byte) (t : State), rule block = true → t.ctl.mode ≠ .loading ∨ open' = true → P t →
      P (owner block t).1)
    (hs : P s) : P (s.serve rule open' refusal tx owner) := by
  obtain h | ⟨st, h⟩ | ⟨block, hrule, hmode, h⟩ := s.serve_cases rule open' refusal tx owner
  · rw [h]; exact hport.ignored _ hs
  · rw [h]; exact hport.finished _ (hport.begun _ hs)
  · rw [h]; exact hport.finished _ (howner block _ hrule hmode (hport.begun _ hs))

theorem State.whileUp_keeps {P : State → Prop} {s : State} {f : State → State}
    (hf : s.resetLow = false → P s → P (f s)) (hs : P s) : P (s.whileUp f) := by
  cases h : s.resetLow with
  | true => rwa [State.whileUp_of_low f h]
  | false => rw [State.whileUp_of_up f h]; exact hf h hs

/-- What does not read the port is kept by its steps. -/
theorem PortKeeps.of_setPort {P : State → Prop} (h : ∀ (s : State) (p : BenchPort), P s → P (s.setPort p)) :
    PortKeeps P := ⟨fun _ hs => h _ _ hs, fun _ hs => h _ _ hs, fun _ hs => h _ _ hs⟩

/-! ## What flags and records keep -/

/-- Kept by setting flags and making records, by the steps of the bench port and by the clock. -/
structure LogKeeps (P : State → Prop) : Prop extends PortKeeps P where
  logged : ∀ {s t : State} {fs : List EventFlag}, s.loggedTo t fs → P s → P t
  clock : ∀ {s : State} (v : Nat), P s → P (s.setClock v)
  fetched : ∀ {s : State} (clocked : Nat), P s → P (s.fetch clocked)

/-- The commands that do more to the port or the deviation table than set flags and make records. -/
def resetsPort : Instr → Bool
  | .hardReset _ | .resetLow | .readEvents _ | .setEventEnables _ | .restart _ _ | .clearDeviations _ => true
  | .settingsLoad _ | .settingsLoadTimeout => true
  | _ => false

theorem LogKeeps.frame {P : State → Prop} (hP : LogKeeps P) {s t : State} {bs : List Block} (h : s.changedOnly t bs)
    (hbs : .clock ∉ bs ∧ .resetLow ∉ bs ∧ .port ∉ bs ∧ .dev ∉ bs) (hs : P s) : P t :=
  hP.logged (State.loggedTo_of_changedOnly h hbs []) hs

/-- A request whose owner sets flags and makes records at most. -/
theorem LogKeeps.serve {P : State → Prop} (hP : LogKeeps P) {s : State} {rule : List Byte → Bool} {open' : Bool}
    {refusal : Status → Reply} {tx : List Byte} {owner : List Byte → State → State × Reply} {fs : List EventFlag}
    (howner : ∀ (block : List Byte) (t : State), t.loggedTo (owner block t).1 fs) (hs : P s) :
    P (s.whileUp fun t => t.serve rule open' refusal tx owner) :=
  State.whileUp_keeps (fun _ => State.serve_keeps hP.toPortKeeps fun block t _ _ => hP.logged (howner block t)) hs

/-- An event that sets flags and makes records at most. -/
theorem LogKeeps.event {P : State → Prop} (hP : LogKeeps P) {s : State} {f : State → State} {fs : List EventFlag}
    (hf : s.loggedTo (f s) fs) (hs : P s) : P (s.whileUp f) := State.whileUp_keeps (fun _ => hP.logged hf) hs

/-- What flags and records keep, every other command keeps. -/
theorem LogKeeps.exec {P : State → Prop} (hP : LogKeeps P) {c : Instr} {s t : State} (hc : resetsPort c = false)
    (h : exec c s = .next t) (hs : P s) : P t := by
  have hreport {rule : List Byte → Bool} {open' : Bool} {tx : List Byte} (output : State → List Byte) :
      P (s.whileUp fun t => t.serve rule open' Reply.refuse tx (reportOwner output)) :=
    hP.serve (fs := []) (fun _ t => t.loggedTo_refl _) hs
  have hframe (c : FrameClass) : P (s.whileUp fun t => t.receive c) := hP.event (s.receive_loggedTo c) hs
  cases c with
  | hardReset straps => cases hc
  | resetLow => cases hc
  | readEvents tx => cases hc
  | setEventEnables tx => cases hc
  | restart straps tx => cases hc
  | clearDeviations tx => cases hc
  | settingsLoad record => cases hc
  | settingsLoadTimeout => cases hc
  | settleExpiry => cases h; exact hP.event s.takeSettle_loggedTo hs
  | readIdentity tx => cases h; exact hreport _
  | readStatus tx => cases h; exact hreport _
  | readClock tx => cases h; exact hreport _
  | readLane laneFull tx => cases h; exact hreport _
  | readSettings tx => cases h; exact hreport _
  | loadItems tx =>
    cases h
    exact hP.serve (fs := []) (fun block t =>
      State.loggedTo_of_changedOnly (loadItemsOwner_changedOnly block t) (by simp) _) hs
  | removeItem tx =>
    cases h
    exact hP.serve (fs := []) (fun block t =>
      State.loggedTo_of_changedOnly (removeItemOwner_changedOnly block t) (by simp) _) hs
  | openBuild tx => cases h; exact hP.serve openBuildOwner_loggedTo hs
  | cancelBuild tx => cases h; exact hP.serve cancelBuildOwner_loggedTo hs
  | sealBuild tx => cases h; exact hP.serve sealBuildOwner_loggedTo hs
  | holdBays tx => cases h; exact hP.serve holdBaysOwner_loggedTo hs
  | releaseBays tx => cases h; exact hP.serve releaseBaysOwner_loggedTo hs
  | readBay tx =>
    cases h
    exact hP.serve (fs := []) (fun block t =>
      State.loggedTo_of_changedOnly (readBayOwner_changedOnly block t) (by simp) _) hs
  | confirmPick tx => cases h; exact hP.serve confirmPickOwner_loggedTo hs
  | returnTote tx => cases h; exact hP.serve returnToteOwner_loggedTo hs
  | readDeviations tx =>
    cases h
    exact hP.serve (fs := []) (fun block t =>
      State.loggedTo_of_changedOnly (readDeviationsOwner_changedOnly block t) (by simp) _) hs
  | setMode tx => cases h; exact hP.serve setModeOwner_loggedTo hs
  | readPeers tx =>
    cases h
    exact hP.serve (fs := []) (fun block t =>
      State.loggedTo_of_changedOnly (readPeersOwner_changedOnly block t) (by simp) _) hs
  | readLineCounters tx => cases h; exact hP.serve (fs := []) (fun _ t => t.setLi_loggedTo _ _) hs
  | writeSettings tx =>
    cases h
    exact hP.serve (fs := []) (fun block t =>
      State.loggedTo_of_changedOnly (writeSettingsOwner_changedOnly block t) (by simp) _) hs
  | writeAccessEnd => cases h; exact hP.event s.endWriteAccess_loggedTo hs
  | writeAccessTimeout => cases h; exact hP.event s.timeoutWriteAccess_loggedTo hs
  | fetchTransaction clocked => cases h; exact State.whileUp_keeps (fun _ => hP.fetched clocked) hs
  | tagRead earlier last laneFull =>
    cases h
    exact hP.event ((s.readerActivity_loggedTo _ _).trans (State.readerCharacter_loggedTo _ _ _)) hs
  | arrival lowMicros =>
    cases h
    refine State.whileUp_keeps (fun _ hs => ?_) hs
    split
    · exact hs
    · exact hP.logged s.arrival_loggedTo hs
  | divertConfirmExpiry tote => cases h; exact hP.event (s.takeConfirmExpiry_loggedTo tote) hs
  | dwellExpiry tote => cases h; exact hP.event (s.takeDwell_loggedTo tote) hs
  | chillWindowExpiry bay => cases h; exact hP.event (s.takeChill_loggedTo bay) hs
  | deadlineExpiry bay =>
    cases h
    refine State.whileUp_keeps (fun _ hs => ?_) hs
    split
    · exact hP.logged (s.takeDeadline_loggedTo bay) hs
    · exact hs
  | substituteWaitExpiry bay line =>
    cases h
    refine State.whileUp_keeps (fun _ hs => ?_) hs
    split
    · exact hP.logged (s.trial_loggedTo bay line.val) hs
    · exact hs
  | jamEnd => cases h; exact hP.event s.endJam_loggedTo hs
  | badFrame levels => cases h; exact hframe _
  | joinNotice sender sequence laneCapacity bayCount revision => cases h; exact hframe _
  | demandNotice sender sequence entries => cases h; exact hframe _
  | drawNotice sender sequence tote serial item units remaining => cases h; exact hframe _
  | tallyNotice sender sequence tote serial item remaining => cases h; exact hframe _
  | clockTick => cases h; exact State.whileUp_keeps (fun _ => hP.clock _) hs
  | unknownRequestCode code tx =>
    cases h
    refine State.whileUp_keeps (fun _ hs => ?_) hs
    unfold State.unknownRequest
    split_ifs
    · exact hs
    · exact hP.ignored _ hs
    · exact hP.finished _ (hP.begun _ hs)
  | _ => exact hP.frame (exec_changedOnly h) (by simp [fieldsWritten]) hs

/-! ## ATTN -/

/-- ATTN stands at what the flags and enables say (R181). -/
def BenchPort.attnSound (p : BenchPort) : Prop := p.attn = attnLevel p.flags p.enables

theorem attnLevel_eq (flags enables : BitVec 13) :
    attnLevel flags enables = decide (∃ k : Fin 13, flags[k] = true ∧ enables[k] = true) := by
  have hzero : flags &&& enables = 0#13 ↔ ∀ k : Fin 13, ¬ (flags[k] = true ∧ enables[k] = true) := by
    constructor
    · intro h k hk
      have hbit : (flags &&& enables)[k] = (0#13)[k] := by rw [h]
      simp only [BitVec.getElem_and, Fin.getElem_fin, BitVec.getElem_zero] at hbit hk
      simp [hk] at hbit
    · intro h
      apply BitVec.eq_of_getElem_eq
      intro i hi
      have hbit := h ⟨i, hi⟩
      simpa using hbit
  rw [attnLevel, Bool.eq_iff_iff, bne_iff_ne, ne_eq, hzero, decide_eq_true_iff, not_forall_not]

/-- While RESET is not low the invariant is `attnSound`. -/
theorem State.attnFollows_of_up {s : State} (h : s.resetLow = false) : s.attnFollows ↔ s.port.attnSound := by
  rw [State.attnFollows, h, Bool.not_false, Bool.true_and, ← attnLevel_eq, BenchPort.attnSound]

theorem BenchPort.evalAttn_attnSound (p : BenchPort) : p.evalAttn.attnSound := rfl

theorem BenchPort.cleared_attnSound : BenchPort.cleared.attnSound := by
  unfold BenchPort.attnSound
  decide

theorem attnSound_logKeeps : LogKeeps fun s => s.port.attnSound where
  ignored _ hs := hs
  begun _ hs := hs
  finished _ hs := hs
  logged h hs := h.port.induct (fun q f _ _ => BenchPort.evalAttn_attnSound _) hs
  clock _ hs := hs
  fetched _ hs := by
    unfold State.fetch
    split
    · exact hs
    · exact hs

theorem State.loadOutcome_attnSound {s : State} (r : Settings × LoadOutcome) (hs : s.port.attnSound) :
    (s.loadOutcome r).port.attnSound := by
  unfold State.loadOutcome
  dsimp only
  split
  · exact hs
  · exact BenchPort.evalAttn_attnSound _
  · exact BenchPort.evalAttn_attnSound _

theorem State.endLoad_attnSound {s : State} (r : Settings × LoadOutcome) (hs : s.port.attnSound) :
    (s.endLoad r).port.attnSound := by
  unfold State.endLoad
  split
  · exact s.loadOutcome_attnSound r hs
  · exact hs

theorem State.restartRequest_attnSound {s : State} (straps : BitVec 5) (tx : List Byte) (hs : s.port.attnSound) :
    (s.restartRequest straps tx).port.attnSound := by
  unfold State.restartRequest
  split
  · exact hs
  · split
    · exact hs
    · exact BenchPort.evalAttn_attnSound _

/-- A command other than a reset keeps ATTN at what R181 says. -/
theorem exec_attnSound {c : Instr} {s t : State} (hreset : ∀ straps, c ≠ .hardReset straps) (hlow : c ≠ .resetLow)
    (h : exec c s = .next t) (hs : s.port.attnSound) : t.port.attnSound := by
  cases c with
  | hardReset straps => exact absurd rfl (hreset straps)
  | resetLow => exact absurd rfl hlow
  | readEvents tx =>
    cases h
    exact State.whileUp_keeps (P := fun u => u.port.attnSound)
      (fun _ => State.serve_keeps attnSound_logKeeps.toPortKeeps
        fun _ _ _ _ _ => BenchPort.evalAttn_attnSound _) hs
  | setEventEnables tx =>
    cases h
    refine State.whileUp_keeps (P := fun u => u.port.attnSound)
      (fun _ => State.serve_keeps attnSound_logKeeps.toPortKeeps fun block t _ _ ht => ?_) hs
    unfold enablesOwner
    dsimp only
    split
    · exact ht
    · exact BenchPort.evalAttn_attnSound _
  | restart straps tx =>
    cases h
    exact State.whileUp_keeps (P := fun u => u.port.attnSound) (fun _ => State.restartRequest_attnSound _ _) hs
  | clearDeviations tx =>
    cases h
    exact State.whileUp_keeps (P := fun u => u.port.attnSound)
      (fun _ => State.serve_keeps attnSound_logKeeps.toPortKeeps fun _ _ _ _ ht => ht) hs
  | settingsLoad record =>
    cases h
    exact State.whileUp_keeps (P := fun u => u.port.attnSound) (fun _ => State.endLoad_attnSound _) hs
  | settingsLoadTimeout =>
    cases h
    exact State.whileUp_keeps (P := fun u => u.port.attnSound) (fun _ => State.endLoad_attnSound _) hs
  | _ => exact attnSound_logKeeps.exec rfl h hs

/-- A command that is no reset neither raises nor lowers RESET. -/
theorem exec_resetLow_eq {c : Instr} {s t : State} (hreset : ∀ straps, c ≠ .hardReset straps) (hlow : c ≠ .resetLow)
    (h : exec c s = .next t) : t.resetLow = s.resetLow := by
  refine exec_changedOnly h .resetLow ?_
  cases c with
  | hardReset straps => exact absurd rfl (hreset straps)
  | resetLow => exact absurd rfl hlow
  | _ => simp [fieldsWritten, readerBlocks]

/-- An invariant of the part while RESET is not low, with what a reset leaves: kept by every command. -/
theorem exec_keeps_of_up {P Q : State → Prop} (hup : ∀ s : State, s.resetLow = false → (P s ↔ Q s))
    (hhard : ∀ (straps : BitVec 5) (s : State),
      P { State.afterReset straps with pending := s.pending, draws := s.draws })
    (hlow : ∀ s : State, P s → P s.lowerReset)
    (hexec : ∀ {c : Instr} {s t : State}, (∀ straps, c ≠ .hardReset straps) → c ≠ .resetLow → s.resetLow = false →
      exec c s = .next t → Q s → Q t)
    {c : Instr} {s t : State} (h : exec c s = .next t) (hs : P s) : P t := by
  by_cases hr : ∃ straps, c = .hardReset straps
  · obtain ⟨straps, rfl⟩ := hr
    cases h
    exact hhard straps s
  by_cases hl : c = .resetLow
  · subst hl
    cases h
    exact hlow s hs
  have hne : ∀ straps, c ≠ .hardReset straps := fun straps hc => hr ⟨straps, hc⟩
  cases hrst : s.resetLow with
  | true =>
    rw [exec_of_resetLow hrst hne hl] at h
    cases h
    exact hs
  | false =>
    have hrst' := (exec_resetLow_eq hne hl h).trans hrst
    rw [hup t hrst']
    exact hexec hne hl hrst h ((hup s hrst).mp hs)

theorem exec_attnFollows {c : Instr} {s t : State} (h : exec c s = .next t) (hs : s.attnFollows) : t.attnFollows :=
  exec_keeps_of_up (fun _ => State.attnFollows_of_up)
    (fun _ _ => (State.attnFollows_of_up rfl).mpr BenchPort.cleared_attnSound) (fun _ _ => rfl)
    (fun hreset hlow _ => exec_attnSound hreset hlow) h hs

/-! ## READY -/

/-- READY is high exactly while the reply buffer holds a reply (R173). -/
def BenchPort.readySound (p : BenchPort) : Prop := p.ready = p.reply.isSome

theorem State.readyFollows_of_up {s : State} (h : s.resetLow = false) : s.readyFollows ↔ s.port.readySound := by
  rw [State.readyFollows, h, Bool.not_false, Bool.true_and, BenchPort.readySound]

theorem readySound_logKeeps : LogKeeps fun s => s.port.readySound where
  ignored _ hs := hs
  begun _ _ := rfl
  finished _ _ := rfl
  logged h hs := h.port.induct (fun _ _ _ hq => hq) hs
  clock _ hs := hs
  fetched _ hs := by
    unfold State.fetch
    split
    · exact hs
    · exact rfl

theorem State.endLoad_readySound {s : State} (r : Settings × LoadOutcome) (hs : s.port.readySound) :
    (s.endLoad r).port.readySound := by
  unfold State.endLoad
  split
  · unfold State.loadOutcome
    dsimp only
    split
    · exact hs
    · exact hs
    · exact hs
  · exact hs

theorem State.restartRequest_readySound {s : State} (straps : BitVec 5) (tx : List Byte) (hs : s.port.readySound) :
    (s.restartRequest straps tx).port.readySound := by
  unfold State.restartRequest
  split
  · exact hs
  · split
    · exact rfl
    · exact rfl

theorem enablesOwner_readySound (block : List Byte) {s : State} (hs : s.port.readySound) :
    (enablesOwner block s).1.port.readySound := by
  unfold enablesOwner
  dsimp only
  split
  · exact hs
  · exact hs

/-- A command other than a reset keeps READY at what R173 says. -/
theorem exec_readySound {c : Instr} {s t : State} (hreset : ∀ straps, c ≠ .hardReset straps) (hlow : c ≠ .resetLow)
    (h : exec c s = .next t) (hs : s.port.readySound) : t.port.readySound := by
  have hserve {rule : List Byte → Bool} {open' : Bool} {tx : List Byte} {owner : List Byte → State → State × Reply}
      (howner : ∀ (block : List Byte) (u : State), u.port.readySound → (owner block u).1.port.readySound) :
      (s.whileUp fun u => u.serve rule open' Reply.refuse tx owner).port.readySound :=
    State.whileUp_keeps (P := fun u => u.port.readySound)
      (fun _ => State.serve_keeps readySound_logKeeps.toPortKeeps fun block u _ _ => howner block u) hs
  cases c with
  | hardReset straps => exact absurd rfl (hreset straps)
  | resetLow => exact absurd rfl hlow
  | readEvents tx => cases h; exact hserve fun _ _ hu => hu
  | setEventEnables tx => cases h; exact hserve fun block _ hu => enablesOwner_readySound block hu
  | clearDeviations tx => cases h; exact hserve fun _ _ hu => hu
  | restart straps tx =>
    cases h
    exact State.whileUp_keeps (P := fun u => u.port.readySound) (fun _ => State.restartRequest_readySound _ _) hs
  | settingsLoad record =>
    cases h
    exact State.whileUp_keeps (P := fun u => u.port.readySound) (fun _ => State.endLoad_readySound _) hs
  | settingsLoadTimeout =>
    cases h
    exact State.whileUp_keeps (P := fun u => u.port.readySound) (fun _ => State.endLoad_readySound _) hs
  | _ => exact readySound_logKeeps.exec rfl h hs

theorem exec_readyFollows {c : Instr} {s t : State} (h : exec c s = .next t) (hs : s.readyFollows) : t.readyFollows :=
  exec_keeps_of_up (fun _ => State.readyFollows_of_up)
    (fun _ _ => rfl) (fun _ _ => rfl)
    (fun hreset hlow _ => exec_readySound hreset hlow) h hs

/-! ## The deviation table -/

/-- At most 64 records, and never more than records-since-clear (R153). -/
def DeviationTable.bounded (d : DeviationTable) : Prop :=
  d.records.length ≤ 64 ∧ d.records.length ≤ d.sinceClear ∧ d.sinceClear ≤ 65535

/-- While records-since-clear is below 65535 the records are numbered in a run that ends with it (R154). -/
def DeviationTable.numbered (d : DeviationTable) : Prop :=
  d.sinceClear < 65535 →
    ∀ k x, d.records[k]? = some x → x.number + d.records.length = d.sinceClear + 1 + k

theorem DeviationTable.add_sinceClear (d : DeviationTable) (now : Nat) (k : DeviationKind) :
    (d.add now k).sinceClear = min (d.sinceClear + 1) 65535 := rfl

/-- The records kept when one is added: the oldest goes where there is no free place (R153). -/
theorem DeviationTable.add_records (d : DeviationTable) (now : Nat) (k : DeviationKind) :
    (d.add now k).records = (d.records.drop (if 64 ≤ d.records.length then 1 else 0))
      ++ [{ number := min (d.sinceClear + 1) 65535, time := now, kind := k }] := by
  by_cases h : 64 ≤ d.records.length
  · simp [DeviationTable.add, DeviationTable.nextNumber, satAdd, counterMax, deviationPlaces, h]
  · simp [DeviationTable.add, DeviationTable.nextNumber, satAdd, counterMax, deviationPlaces, h]

theorem DeviationTable.add_bounded {d : DeviationTable} (now : Nat) (k : DeviationKind) (h : d.bounded) :
    (d.add now k).bounded := by
  obtain ⟨hplaces, hcount, hmax⟩ := h
  rw [DeviationTable.bounded, DeviationTable.add_sinceClear, DeviationTable.add_records, List.length_append,
    List.length_drop, List.length_singleton]
  split <;> omega

theorem DeviationTable.add_numbered {d : DeviationTable} (now : Nat) (k : DeviationKind) (h : d.numbered) :
    (d.add now k).numbered := by
  intro hbelow j x hx
  rw [DeviationTable.add_sinceClear] at hbelow ⊢
  have hold := h (by omega)
  rw [DeviationTable.add_records] at hx ⊢
  generalize hgone : (if 64 ≤ d.records.length then 1 else 0) = gone at hx ⊢
  have hgone' : gone ≤ d.records.length := by rw [← hgone]; split <;> omega
  rw [List.length_append, List.length_drop, List.length_singleton]
  rw [List.getElem?_append, List.length_drop] at hx
  split at hx
  · rw [List.getElem?_drop] at hx
    have := hold _ x hx
    omega
  · next hj =>
    rw [List.getElem?_singleton] at hx
    split at hx
    · cases hx
      dsimp only
      omega
    · cases hx

theorem DeviationTable.foldl_add_keeps {Q : DeviationTable → Prop}
    (hadd : ∀ (d : DeviationTable) (now : Nat) (k : DeviationKind), Q d → Q (d.add now k)) (now : Nat) :
    ∀ (ks : List DeviationKind) (d : DeviationTable), Q d → Q (ks.foldl (fun d k => d.add now k) d)
  | [], _, hd => hd
  | k :: ks, d, hd => DeviationTable.foldl_add_keeps hadd now ks _ (hadd d now k hd)

/-- What a deviation table keeps as records are added, and an empty one meets, every command keeps. -/
theorem exec_dev {Q : DeviationTable → Prop}
    (hadd : ∀ (d : DeviationTable) (now : Nat) (k : DeviationKind), Q d → Q (d.add now k))
    (hempty : ∀ now, Q { records := [], sinceClear := 0, lastClear := now })
    {c : Instr} {s t : State} (h : exec c s = .next t) (hs : Q s.dev) : Q t.dev := by
  have hkeeps : LogKeeps fun u => Q u.dev :=
    { ignored := fun _ hu => hu
      begun := fun _ hu => hu
      finished := fun _ hu => hu
      logged := fun hlog hu => by
        obtain ⟨ks, hks⟩ := hlog.dev
        rw [hks]
        exact DeviationTable.foldl_add_keeps hadd _ ks _ hu
      clock := fun _ hu => hu
      fetched := fun {u} n hu => by rwa [show (u.fetch n).dev = u.dev from u.fetch_changedOnly n .dev (by simp)] }
  cases c with
  | hardReset straps => cases h; exact hempty 0
  | clearDeviations tx =>
    cases h
    exact State.whileUp_keeps (P := fun u => Q u.dev)
      (fun _ => State.serve_keeps hkeeps.toPortKeeps fun _ _ _ _ _ => hempty _) hs
  | resetLow | readEvents | setEventEnables | restart | settingsLoad | settingsLoadTimeout =>
    rwa [show t.dev = s.dev from exec_changedOnly h .dev (by simp [fieldsWritten])]
  | _ => exact hkeeps.exec rfl h hs

theorem DeviationTable.empty_bounded (now : Nat) :
    DeviationTable.bounded { records := [], sinceClear := 0, lastClear := now } := by simp [DeviationTable.bounded]

theorem DeviationTable.empty_numbered (now : Nat) :
    DeviationTable.numbered { records := [], sinceClear := 0, lastClear := now } := by simp [DeviationTable.numbered]

/-- Settles O52: each of the four is kept by every command. -/
theorem stepKeepsAttentionReadyAndDeviations : Obligations.StepKeepsAttentionReadyAndDeviations := fun _ _ h =>
  ⟨step_keeps (fun _ _ hs => hs) (fun _ _ _ => exec_attnFollows) h,
    step_keeps (fun _ _ hs => hs) (fun _ _ _ => exec_readyFollows) h,
    step_keeps (P := fun u => u.dev.bounded) (fun _ _ hs => hs)
      (fun _ _ _ => exec_dev (fun _ now k => DeviationTable.add_bounded now k) DeviationTable.empty_bounded) h,
    step_keeps (P := fun u => u.dev.numbered) (fun _ _ hs => hs)
      (fun _ _ _ => exec_dev (fun _ now k => DeviationTable.add_numbered now k) DeviationTable.empty_numbered) h⟩

end Sys2Proof.Machine

/-! PROOF. What an operation of the part keeps, if each single update it is made of keeps it. The conditions under which
the model makes an update stand beside it: what a change of a build leaves alone, and when a build, a record or an entry
joins its table. -/

namespace Sys2Proof.Machine

/-- The modes and lanes in which a notice can be offered: not LOADING, or a tote is in the lane (R118). -/
def State.mayOffer (s : State) : Prop := s.ctl.mode ≠ .loading ∨ s.lane.queue ≠ []

/-- A tote entry's tote ID and item code are no zeros and its count is 0..255 (R98), as far as the table's are. -/
def ToteEntry.soundBy (e : ToteEntry) (table : List ToteEntry) : Prop :=
  (∀ x ∈ table, x.tote ≠ 0 ∧ x.item ≠ 0 ∧ x.remaining ≤ 255) → e.tote ≠ 0 ∧ e.item ≠ 0 ∧ e.remaining ≤ 255

/-- A change of tote entries that keeps their keys and bounds (R98, R105, R107). -/
def keepsEntries (f : ToteEntry → ToteEntry) : Prop :=
  ∀ e, (f e).tote = e.tote ∧ (f e).item = e.item ∧ (e.remaining ≤ 255 → (f e).remaining ≤ 255)

/-- A decoder that has been started, its frame in assembly short of eight characters (R95). -/
def ReaderDecoder.started (d : ReaderDecoder) : Prop :=
  d ≠ .stopped ∧ ∀ frame, d = .assembling frame → frame.length < 8

/-! ## The items and the bays -/

/-- An item record is taken that passes the checks of R3, or one that no line names is removed (R5). -/
inductive State.itemsUpdate (s : State) : List ItemRecord → Prop
  | taken (r : RawItem) : s.checkItem r = none → r.value ≤ 65535 → s.itemsUpdate (takeRecord s.items r.record)
  | removed (code : ItemCode) : s.itemInUse code = false → s.itemsUpdate (s.items.filter fun r => r.code != code)

/-- What no operation changes of a line while it is in use: what was ordered, and that its active position is in its
substitute list (R7). -/
structure Line.kept (l l' : Line) : Prop where
  primary : l'.primary = l.primary
  substitutes : l'.substitutes = l.substitutes
  ordered : l'.ordered = l.ordered
  position : l.position ≤ l.substitutes.length → l'.position ≤ l'.substitutes.length

theorem Line.kept_refl (l : Line) : l.kept l := ⟨rfl, rfl, rfl, id⟩

theorem Line.kept_of_position {l l' : Line} (hp : l'.primary = l.primary) (hs : l'.substitutes = l.substitutes)
    (ho : l'.ordered = l.ordered) (h : l'.position = l.position) : l.kept l' :=
  ⟨hp, hs, ho, fun hl => by rwa [h, hs]⟩

/-- What no operation changes of a build while it is in use (R11). -/
structure Build.kept (bd bd' : Build) : Prop where
  floor : bd'.floor = bd.floor
  ceiling : bd'.ceiling = bd.ceiling
  lines : List.Forall₂ Line.kept bd.lines bd'.lines

theorem forall₂_map_right {α : Type} {R : α → α → Prop} {f : α → α} (hf : ∀ a, R a (f a)) :
    ∀ xs : List α, List.Forall₂ R xs (xs.map f)
  | [] => .nil
  | x :: xs => .cons (hf x) (forall₂_map_right hf xs)

theorem forall₂_modify {α : Type} {R : α → α → Prop} {f : α → α} (hrefl : ∀ a, R a a) :
    ∀ (xs : List α) (i : Nat), (∀ a, xs[i]? = some a → R a (f a)) → List.Forall₂ R xs (xs.modify i f)
  | [], _, _ => by simp
  | x :: xs, 0, hf => .cons (hf x rfl) (List.forall₂_same.mpr fun a _ => hrefl a)
  | x :: xs, i + 1, hf => .cons (hrefl x) (forall₂_modify hrefl xs i fun a h => hf a h)

theorem Build.kept_of_lines {bd bd' : Build} (hf : bd'.floor = bd.floor) (hc : bd'.ceiling = bd.ceiling)
    (h : bd'.lines = bd.lines) : bd.kept bd' :=
  ⟨hf, hc, by rw [h]; exact List.forall₂_same.mpr fun l _ => l.kept_refl⟩

/-- A bay's build is changed, the bay returns to EMPTY, or a build is opened in it (R15, R19). -/
inductive State.baysUpdate (s : State) : Vector (Option Build) 8 → Prop
  | changed (b : BayNo) (bd bd' : Build) : s.bay b = some bd → bd.kept bd' → s.baysUpdate (s.bays.set b (some bd'))
  | emptied (b : BayNo) : s.baysUpdate (s.bays.set b none)
  | opened (b : BayNo) (p : BuildParams) : s.bay b = none → s.checkBuild p = none → s.ctl.mode ≠ .loading →
    s.baysUpdate (s.bays.set b (some (s.newBuild p)))

/-- Kept by each update that an operation of the part makes, under the condition it makes it. -/
structure OpKeeps (P : State → Prop) : Prop where
  setItems : ∀ {s : State} {v : List ItemRecord}, s.itemsUpdate v → P s → P (s.setItems v)
  setBays : ∀ {s : State} {v : Vector (Option Build) 8}, s.baysUpdate v → P s → P (s.setBays v)
  setPort : ∀ {s : State} (v : BenchPort), P s → P (s.setPort v)
  setDev : ∀ {s : State} (v : DeviationTable), P s → P (s.setDev v)
  setDraws : ∀ {s : State} (v : Nat), P s → P (s.setDraws v)
  setClock : ∀ {s : State} (v : Nat), P s → P (s.setClock v)
  writing : ∀ {s : State} (state : LoaderState) (bus : SettingsBus), P s →
    P (s.setLoader { s.loader with state := state, bus := bus })
  setMode : ∀ {s : State} (m : Mode) (e : Option Nat), s.ctl.mode ≠ .loading → s.ctl.mode ≠ .muted → m ≠ .loading → P s →
    P (s.setCtl { s.ctl with mode := m, settleExpiry := e })
  counted : ∀ {s : State} (c : LineCounters) (d : Bool), P s → P (s.setLi { s.li with counters := c, degraded := d })
  marked : ∀ {s : State}, s.ctl.mode ≠ .loading → s.ctl.mode ≠ .muted → s.li.queue.length < 12 →
    s.li.queue.any Notice.isMarker = false → P s → P (s.setQueue (s.li.queue ++ [Notice.fresh none]))
  joined : ∀ {s : State} {p : Payload} {q : List Notice}, s.mayOffer → s.ctl.mode ≠ .muted →
    joinQueue s.li.queue p = some q → P s → P (s.setQueue q)
  emptied : ∀ {s : State}, s.ctl.mode = .muted → P s → P (s.setLi ({ s.li with queue := [] }.release .waiting))
  seen : ∀ {s : State}, s.ctl.mode ≠ .loading → P s → P s.seeIdle
  laneKept : ∀ {s : State} (v : Lane), v.queue.length ≤ s.lane.queue.length → P s → P (s.setLane v)
  laneJoined : ∀ {s : State} (v : Lane), s.ctl.mode = .active ∨ s.ctl.mode = .closing → P s → P (s.setLane v)
  mapped : ∀ {s : State} {f : ToteEntry → ToteEntry}, keepsEntries f → P s → P (s.setTable (s.totes.table.map f))
  put : ∀ {s : State} {e : ToteEntry}, e.soundBy s.totes.table → P s → P (s.putEntry e)
  decoded : ∀ {s : State} {d : ReaderDecoder}, s.totes.decoder ≠ .stopped → d.started → P s → P (s.setDecoder d)
  readsCounted : ∀ {s : State} (good malformed duplicate : Nat), P s →
    P (s.setTotes { s.totes with good := good, malformed := malformed, duplicate := duplicate })
  delivered : ∀ {s : State} {p : Nat} {sequence : Byte} {payload : Payload}, s.ctl.mode ≠ .loading → 1 ≤ p → p ≤ 32 →
    p ≠ s.ctl.station → payload.wellFormed = true → P s → P (s.deliver p sequence payload)

theorem OpKeeps.toPort {P : State → Prop} (hP : OpKeeps P) : PortKeeps P := PortKeeps.of_setPort fun _ p => hP.setPort p

/-- A fold of operations that each keep something keeps it. -/
theorem foldl_keeps {α : Type} {P : State → Prop} {f : State → α → State} (hf : ∀ (s : State) (a : α), P s → P (f s a)) :
    ∀ (xs : List α) (s : State), P s → P (xs.foldl f s)
  | [], _, hs => hs
  | x :: xs, s, hs => foldl_keeps hf xs _ (hf s x hs)

theorem settledEntry_keepsEntries {l : LaneEntry} {f : ToteEntry → ToteEntry} (hf : keepsEntries f) :
    keepsEntries fun x => if x.tote == l.tote then settledEntry l f x else x := by
  intro e
  unfold settledEntry
  dsimp only
  split
  · split
    · exact hf e
    · exact ⟨rfl, rfl, id⟩
  · exact ⟨rfl, rfl, id⟩

theorem restored_keepsEntries (drawn now : Nat) : keepsEntries fun x => x.restored drawn now :=
  fun _ => ⟨rfl, rfl, fun _ => Nat.min_le_left _ _⟩

theorem shortPicked_keepsEntries (now : Nat) : keepsEntries fun x => x.shortPicked now :=
  fun _ => ⟨rfl, rfl, fun _ => Nat.zero_le _⟩

theorem State.mayOffer_of_changedOnly {s t : State} {bs : List Block} (h : s.changedOnly t bs)
    (hbs : .ctl ∉ bs ∧ .lane ∉ bs) (hm : s.mayOffer) : t.mayOffer := by
  rwa [State.mayOffer, show t.ctl = s.ctl from h .ctl hbs.1, show t.lane = s.lane from h .lane hbs.2]

theorem matchArrival_length (now : Nat) : ∀ q : List LaneEntry, (matchArrival now q).length = q.length
  | [] => rfl
  | e :: es => by
    unfold matchArrival
    split
    · rfl
    · rw [List.length_cons, matchArrival_length now es, List.length_cons]

section
variable {P : State → Prop} (hP : OpKeeps P) {s : State}
include hP

/-! ## Flags, records and offers -/

theorem OpKeeps.setFlag (f : EventFlag) (hs : P s) : P (s.setFlag f) := hP.setPort _ hs

theorem OpKeeps.record (k : DeviationKind) (hs : P s) : P (s.record k) := hP.setFlag _ (hP.setDev _ hs)

theorem OpKeeps.countLine (f : LineCounters → LineCounters) (hs : P s) : P (s.countLine f) := hP.counted _ _ hs

theorem OpKeeps.offerMarker (hm : s.ctl.mode ≠ .loading) (hs : P s) : P s.offerMarker := by
  unfold State.offerMarker
  split
  · next h =>
    obtain ⟨hmuted, hplace, hnone⟩ := h
    exact hP.marked hm hmuted hplace hnone hs
  · exact hs

theorem OpKeeps.changeCheck (hs : P s) : P s.changeCheck := by
  unfold State.changeCheck
  split
  · next h => exact hP.offerMarker h.1 hs
  · exact hs

theorem OpKeeps.offerTally (p : Payload) (hm : s.mayOffer) (hs : P s) : P (s.offerTally p) := by
  unfold State.offerTally
  split
  · exact hP.countLine _ hs
  · next hmuted =>
    split
    · next q hq => exact hP.joined hm hmuted hq hs
    · exact hP.setFlag _ (hP.countLine _ hs)

/-! ## Bays, trials and modes -/

theorem OpKeeps.setBay {b : BayNo} {bd bd' : Build} (hb : s.bay b = some bd) (hkept : bd.kept bd') (hs : P s) :
    P (s.setBay b (some bd')) := hP.setBays (.changed b bd bd' hb hkept) hs

theorem OpKeeps.modifyBuild (b : BayNo) {f : Build → Build} (hf : ∀ bd, s.bay b = some bd → bd.kept (f bd)) (hs : P s) :
    P (s.modifyBuild b f) := by
  unfold State.modifyBuild
  split
  · exact hs
  · next bd hb => exact hP.setBay hb (hf bd hb) hs

/-- A change of one line that keeps what was ordered. -/
theorem OpKeeps.modifyLine (b : BayNo) (i : Nat) {f : Line → Line}
    (hf : ∀ bd l, s.bay b = some bd → bd.lines[i]? = some l → l.kept (f l)) (hs : P s) : P (s.modifyLine b i f) :=
  hP.modifyBuild b (fun bd hb => ⟨rfl, rfl, forall₂_modify Line.kept_refl _ _ fun l => hf bd l hb⟩) hs

omit hP in
theorem Line.mem_candidates {l : Line} {p : Nat} :
    p ∈ l.candidates ↔ l.position < p ∧ p ≤ l.substitutes.length := by
  simp only [Line.candidates, List.mem_filter, List.mem_range, decide_eq_true_eq]
  omega

omit hP in
theorem Line.unswitched_kept (l : Line) : l.kept l.unswitched := Line.kept_of_position rfl rfl rfl rfl

theorem OpKeeps.trial (b : BayNo) (i : Nat) (hs : P s) : P (s.trial b i) := by
  unfold State.trial
  split
  · exact hs
  · next bd hb =>
    split
    · exact hs
    · next l hl =>
      split
      · next p hp =>
        obtain ⟨-, hplace⟩ := Line.mem_candidates.mp (List.mem_of_find?_eq_some hp)
        refine hP.changeCheck (hP.record _ (hP.modifyLine b i (fun bd' l' hb' hl' => ?_) hs))
        obtain rfl := Option.some.inj (hb.symm.trans hb')
        obtain rfl := Option.some.inj (hl.symm.trans hl')
        exact ⟨rfl, rfl, rfl, fun _ => hplace⟩
      · have hmarked := hP.modifyLine b i (fun _ l _ _ => l.unswitched_kept) hs
        unfold State.noFit
        dsimp only
        split
        · exact hmarked
        · exact hP.record _ hmarked

theorem OpKeeps.trials (xs : List (BayNo × Nat)) (hs : P s) : P (s.trials xs) := by
  unfold State.trials
  split
  · exact hs
  · exact hP.trial _ _ hs
  · exact foldl_keeps (fun _ x => hP.trial x.1 x.2) _ _ (hP.setDraws _ hs)

omit hP in
theorem evalBuild_kept (mode : Mode) (items : List ItemRecord) (now : Nat) (bd : Build) :
    bd.kept (evalBuild mode items now bd) :=
  ⟨rfl, rfl, forall₂_map_right (R := Line.kept) (f := evalLine mode items now bd) (fun _ => Line.kept_of_position rfl rfl rfl rfl) _⟩

theorem OpKeeps.evalBays (bs : List BayNo) (hs : P s) : P (s.evalBays bs) :=
  foldl_keeps (fun _ b => hP.modifyBuild b fun bd _ => evalBuild_kept _ _ _ bd) bs s hs

theorem OpKeeps.reevaluate (bs : List BayNo) (hs : P s) : P (s.reevaluate bs) := hP.trials _ (hP.evalBays bs hs)

theorem OpKeeps.changeMode (m : Mode) (bySetMode : Bool) (hl : s.ctl.mode ≠ .loading) (hu : s.ctl.mode ≠ .muted)
    (hm : m ≠ .loading) (hs : P s) : P (s.changeMode m bySetMode) := by
  have h := hP.changeCheck (hP.reevaluate allBays (hP.setMode m s.ctl.settleExpiry hl hu hm hs))
  unfold State.changeMode
  dsimp only
  split
  · exact h
  · exact hP.setFlag _ h

theorem OpKeeps.closingCheck (hs : P s) : P s.closingCheck := by
  unfold State.closingCheck
  split
  · next h => exact hP.changeMode _ _ (by simp [h.1]) (by simp [h.1]) (by simp) hs
  · exact hs

theorem OpKeeps.returnToEmpty (b : BayNo) (hs : P s) : P (s.returnToEmpty b) :=
  hP.closingCheck (hP.changeCheck (hP.setBays (.emptied b) hs))

theorem OpKeeps.takeDeadline (b : BayNo) (hs : P s) : P (s.takeDeadline b) := by
  unfold State.takeDeadline
  split
  · exact hs
  · next hb =>
    split
    · exact hP.setBay hb (Build.kept_of_lines rfl rfl rfl) hs
    · exact hP.record _ (hP.setBay hb (Build.kept_of_lines rfl rfl rfl) hs)

theorem OpKeeps.openBuild {b : BayNo} {p : BuildParams} (hb : s.bay b = none) (hp : s.checkBuild p = none)
    (hm : s.ctl.mode ≠ .loading) (hs : P s) : P (s.openBuild b p) := by
  have hopen : P ((s.setBay b (some (s.newBuild p))).evalBays [b]) := hP.evalBays _ (hP.setBays (.opened b p hb hp hm) hs)
  refine hP.changeCheck ?_
  unfold State.deadlineAtOnce
  split
  · exact hP.takeDeadline _ hopen
  · exact hopen

theorem OpKeeps.takeChill (b : BayNo) (hs : P s) : P (s.takeChill b) := by
  unfold State.takeChill
  split
  · exact hs
  · next bd hb =>
    have hlapsed : P ((s.record (.chillLapse b bd.orderRef)).setBay b (some bd.lapsed)) :=
      hP.setBay (s := s.record _) hb (Build.kept_of_lines rfl rfl rfl) (hP.record _ hs)
    dsimp only
    split_ifs
    · exact hs
    · exact hlapsed
    · exact hP.changeCheck (hP.reevaluate _ hlapsed)

omit hP in
theorem Build.release_kept (bd : Build) (expiry : Nat) : bd.kept (bd.release expiry) := by
  unfold Build.release
  split
  · exact Build.kept_of_lines rfl rfl rfl
  · exact Build.kept_of_lines rfl rfl rfl

theorem OpKeeps.releaseBay (b : BayNo) (hs : P s) : P (s.releaseBay b) := by
  unfold State.releaseBay
  split
  · exact hs
  · next bd hb =>
    have hreleased := hP.setBay hb (bd.release_kept s.newChillExpiry) hs
    dsimp only
    split
    · exact hP.setFlag _ hreleased
    · exact hreleased

theorem OpKeeps.afterBayChanges (bs : List BayNo) (hs : P s) : P (s.afterBayChanges bs) := by
  unfold State.afterBayChanges
  split
  · exact hs
  · exact hP.changeCheck (hP.reevaluate _ hs)

theorem OpKeeps.takeSettle (hs : P s) : P s.takeSettle := by
  unfold State.takeSettle
  split
  · next h =>
    have hm : s.ctl.mode = .settling := by
      rw [State.settleDue, Bool.and_eq_true, beq_iff_eq] at h
      exact h.1
    have hset : P (s.setCtl { s.ctl with settleExpiry := none }) :=
      hP.setMode s.ctl.mode none (by simp [hm]) (by simp [hm]) (by simp [hm]) hs
    exact hP.changeMode _ _ (by simp [hm]) (by simp [hm]) (by simp) hset
  · exact hs

/-! ## The lane -/

theorem OpKeeps.settle (l : LaneEntry) {f : ToteEntry → ToteEntry} (hf : keepsEntries f) (hm : s.mayOffer) (hs : P s) :
    P (s.settle l f) := by
  unfold State.settle
  split
  · exact hs
  · exact hP.offerTally _ hm (hP.mapped (settledEntry_keepsEntries hf) hs)

theorem OpKeeps.endDeparture (l : LaneEntry) (hs : P s) : P (s.endDeparture l) :=
  hP.closingCheck (hP.changeCheck (hP.reevaluate _ (hP.laneKept _ List.length_eraseP_le hs)))

theorem OpKeeps.pulseMerge (hs : P s) : P s.pulseMerge := hP.laneKept _ le_rfl hs

omit hP in
theorem Build.openWindow_kept (bd : Build) (expiry : Nat) (placed : Bool) : bd.kept (bd.openWindow expiry placed) := by
  unfold Build.openWindow
  split
  · exact Build.kept_of_lines rfl rfl rfl
  · exact Build.kept_of_lines rfl rfl rfl

theorem OpKeeps.checkCompletion (b : BayNo) (hs : P s) : P (s.checkCompletion b) := by
  unfold State.checkCompletion
  split
  · exact hs
  · next bd hb =>
    have hchecked : P (s.setBay b (some { bd with work := completedWork s.items bd })) :=
      hP.setBay hb (Build.kept_of_lines rfl rfl rfl) hs
    dsimp only
    split
    · exact hP.setFlag _ hchecked
    · exact hchecked

theorem OpKeeps.place (x : Allocation × Nat) (hs : P s) : P (s.place x) :=
  hP.modifyLine _ _ (fun _ _ _ _ => Line.kept_of_position rfl rfl rfl rfl) hs

theorem OpKeeps.pin (a : Allocation) (hs : P s) : P (s.pin a) :=
  hP.modifyLine _ _ (fun _ _ _ _ => Line.kept_of_position rfl rfl rfl rfl) hs

theorem OpKeeps.unpin (a : Allocation) (hs : P s) : P (s.unpin a) :=
  hP.modifyLine _ _ (fun _ _ _ _ => Line.kept_of_position rfl rfl rfl rfl) hs

theorem OpKeeps.placePick (e : LaneEntry) (taken : List Nat) (hs : P s) : P (s.placePick e taken) :=
  foldl_keeps (fun _ b ht => hP.checkCompletion b (hP.modifyBuild b (fun bd _ => bd.openWindow_kept _ _) ht)) _ _
    (foldl_keeps (fun _ x => hP.place x) _ _ hs)

theorem OpKeeps.confirmPick (e : LaneEntry) (taken : List Nat) (hm : s.mayOffer) (hs : P s) :
    P (s.confirmPick e taken) := by
  have hplaced := hP.placePick e taken hs
  have hoffer : (s.placePick e taken).mayOffer :=
    State.mayOffer_of_changedOnly (s.placePick_changedOnly e taken) (by simp) hm
  refine hP.endDeparture _ (hP.pulseMerge ?_)
  unfold State.settleShort
  split
  · exact hP.record _ (hP.settle _ (shortPicked_keepsEntries _) hoffer hplaced)
  · exact hplaced

theorem OpKeeps.unpinAll (as : List Allocation) (hs : P s) : P (s.unpinAll as) :=
  foldl_keeps (fun _ a => hP.unpin a) as s hs

theorem OpKeeps.returnTote (e : LaneEntry) (hm : s.mayOffer) (hs : P s) : P (s.returnTote e) :=
  hP.endDeparture _ (hP.pulseMerge (hP.settle _ (restored_keepsEntries _ _)
    (State.mayOffer_of_changedOnly (s.unpinAll_changedOnly _) (by simp) hm) (hP.unpinAll _ hs)))

theorem OpKeeps.takeConfirmExpiry (tote : ToteId) (hs : P s) : P (s.takeConfirmExpiry tote) := by
  unfold State.takeConfirmExpiry
  split
  · exact hs
  · next e he =>
    have hlane : s.mayOffer := .inr (List.ne_nil_of_mem (List.mem_of_find?_eq_some he))
    exact hP.endDeparture _ (hP.setFlag _ (hP.record _ (hP.settle _ (restored_keepsEntries _ _)
      (State.mayOffer_of_changedOnly (s.unpinAll_changedOnly _) (by simp) hlane) (hP.unpinAll _ hs))))

theorem OpKeeps.arrival (hs : P s) : P s.arrival := by
  unfold State.arrival
  split
  · exact hP.setFlag _ (hP.laneKept _ (matchArrival_length _ _).le hs)
  · exact hP.setFlag _ (hP.laneKept _ le_rfl hs)

theorem OpKeeps.takeDwell (tote : ToteId) (hs : P s) : P (s.takeDwell tote) := by
  unfold State.takeDwell
  split
  · exact hP.setFlag _ (hP.laneKept _ (List.length_map _).le hs)
  · exact hs

/-! ## The reader port -/

/-- The entry is in the table, or it is sound on its own. -/
def ToteEntry.foundIn (e : ToteEntry) (table : List ToteEntry) : Prop :=
  e ∈ table ∨ e.tote ≠ 0 ∧ e.item ≠ 0 ∧ e.remaining ≤ 255

omit hP in
theorem ToteEntry.foundIn.drawn {e : ToteEntry} {table : List ToteEntry} (h : e.foundIn table) (drawn now : Nat) :
    ToteEntry.soundBy { e with remaining := e.remaining - drawn, touched := now } table := by
  intro htable
  obtain hmem | ⟨htote, hitem, hrem⟩ := h
  · obtain ⟨htote, hitem, hrem⟩ := htable e hmem
    exact ⟨htote, hitem, (Nat.sub_le _ _).trans hrem⟩
  · exact ⟨htote, hitem, (Nat.sub_le _ _).trans hrem⟩

theorem OpKeeps.divert (e : ToteEntry) (as : List Allocation) (hm : s.ctl.mode = .active ∨ s.ctl.mode = .closing)
    (he : e.foundIn s.totes.table) (hs : P s) : P (s.divert e as) := by
  have hpinned : P (as.foldl State.pin (s.joinLane (s.newLaneEntry e as))) :=
    foldl_keeps (fun _ a => hP.pin a) as _ (hP.laneJoined _ hm hs)
  have htotes : ((as.foldl State.pin (s.joinLane (s.newLaneEntry e as))).reevaluate (touchedBays as)).totes
      = s.totes :=
    State.changedOnly_trans (bs := [.lane, .bays, .li, .dev, .port, .draws])
      (State.changedOnly_mono (s.setLane_changedOnly _) (by simp))
      (State.changedOnly_trans
        (State.changedOnly_mono (State.changedOnly_foldl _ State.pin_changedOnly as _) (by simp))
        (State.changedOnly_mono (State.reevaluate_changedOnly _ (touchedBays as)) (by simp))) .totes (by simp)
  refine hP.changeCheck (hP.put ?_ (hP.reevaluate _ hpinned))
  rw [htotes]
  exact he.drawn _ _

theorem OpKeeps.shareDecision (laneFull : Bool) (e : ToteEntry) (he : e.foundIn s.totes.table) (hs : P s) :
    P (s.shareDecision laneFull e) := by
  unfold State.shareDecision
  split
  · exact hs
  · next hdivert =>
    have hm : s.ctl.mode = .active ∨ s.ctl.mode = .closing := by
      rw [not_or, Bool.not_eq_false] at hdivert
      obtain ⟨hmay, -⟩ := hdivert
      simp only [State.mayDivert, Bool.and_eq_true, Bool.or_eq_true, beq_iff_eq] at hmay
      tauto
    split
    · exact hs
    · next u hu =>
      obtain ⟨hmuted, q, hq, rfl⟩ := State.offerDraw_some hu
      have hoffer : s.mayOffer := .inl (by rcases hm with h | h <;> simp [h])
      exact hP.divert e _ hm he (hP.joined hoffer hmuted hq hs)

/-! ### Tag reads -/

omit hP in
theorem State.toteEntry_some {s : State} {tote : ToteId} {e : ToteEntry} (h : s.toteEntry tote = some e) :
    e ∈ s.totes.table ∧ e.tote = tote :=
  ⟨List.mem_of_find?_eq_some h, by simpa using List.find?_some h⟩

omit hP in
theorem parseTag_some {frame : List Byte} {t : Tag} (h : parseTag frame = some t) : t.tote ≠ 0 ∧ t.item ≠ 0 := by
  unfold parseTag at h
  split at h
  · split at h
    · next hgood =>
      obtain ⟨-, -, htote, hitem⟩ := hgood
      cases h
      exact ⟨htote, hitem⟩
    · cases h
  · cases h

omit hP in
theorem tagOfFrame_some {frame : List ReaderChar} {t : Tag} (h : tagOfFrame frame = some t) :
    t.tote ≠ 0 ∧ t.item ≠ 0 := by
  unfold tagOfFrame at h
  split at h
  · exact parseTag_some h
  · cases h

omit hP in
/-- A tagged entry is sound where the tag's codes are no zeros and the table is sound (R102). -/
theorem taggedEntry_soundBy {s : State} {t : Tag} (htote : t.tote ≠ 0) (hitem : t.item ≠ 0) (now : Nat) :
    (taggedEntry (s.toteEntry t.tote) t now).soundBy s.totes.table := by
  intro htable
  unfold taggedEntry
  split
  · exact ⟨htote, hitem, Nat.le_of_lt_succ t.fill.isLt⟩
  · next e he =>
    obtain ⟨hheld, -, hrem⟩ := htable e (State.toteEntry_some he).1
    split
    · exact ⟨hheld, hitem, hrem⟩
    · exact ⟨htote, hitem, Nat.le_of_lt_succ t.fill.isLt⟩

omit hP in
/-- A tagged entry is sound on its own, or the table holds its tote and so takes it. -/
theorem taggedEntry_foundIn {s : State} {t : Tag} (htote : t.tote ≠ 0) (hitem : t.item ≠ 0) (now : Nat)
    (inLane : ToteId → Bool) :
    (taggedEntry (s.toteEntry t.tote) t now).foundIn
      (putTote inLane s.totes.table (taggedEntry (s.toteEntry t.tote) t now)) := by
  unfold taggedEntry
  split
  · exact .inr ⟨htote, hitem, Nat.le_of_lt_succ t.fill.isLt⟩
  · next e he =>
    obtain ⟨hmem, hkey⟩ := State.toteEntry_some he
    split
    · refine .inl ?_
      have hheld : (s.totes.table.any fun x => x.tote == e.tote) = true := by
        rw [List.any_eq_true]
        exact ⟨e, hmem, by simp⟩
      rw [putTote, if_pos hheld, List.mem_map]
      exact ⟨e, hmem, by simp⟩
    · exact .inr ⟨htote, hitem, Nat.le_of_lt_succ t.fill.isLt⟩

theorem OpKeeps.readerFrame (frame : List ReaderChar) (laneFull : Bool) (hs : P s) :
    P (s.readerFrame frame laneFull) := by
  unfold State.readerFrame
  split
  · exact hP.readsCounted _ _ _ hs
  · next t ht =>
    obtain ⟨htote, hitem⟩ := tagOfFrame_some ht
    split
    · exact hP.readsCounted _ _ _ hs
    · have hput := hP.put (e := taggedEntry (s.toteEntry t.tote) t s.clock)
        (s := s.setTotes { s.totes with good := satAdd s.totes.good 1 })
        (taggedEntry_soundBy (s := s) htote hitem _) (hP.readsCounted _ _ _ hs)
      exact hP.shareDecision laneFull _ (taggedEntry_foundIn (s := s) htote hitem _ _) hput

theorem OpKeeps.readerCharacter (laneFull : Bool) (c : ReaderChar) (hs : P s) : P (s.readerCharacter laneFull c) := by
  unfold State.readerCharacter
  split
  · exact hs
  · exact hs
  · next frame hd =>
    split
    · next hlen =>
      refine hP.decoded (by simp [hd]) ⟨by simp, fun f hf => ?_⟩ hs
      cases hf
      exact hlen
    · exact hP.readerFrame _ _ (hP.decoded (by simp [hd]) ⟨by simp, by simp⟩ hs)
  · next hd => exact hP.decoded (by simp [hd]) ⟨by simp, by simp⟩ hs

omit hP in
theorem ReaderDecoder.assembling_nil_started : (ReaderDecoder.assembling []).started :=
  ⟨by simp, fun f hf => by cases hf; decide⟩

theorem OpKeeps.readerIdle (hs : P s) : P s.readerIdle := by
  have hready (h : s.totes.decoder ≠ .stopped) : P (s.setDecoder (.assembling [])) :=
    hP.decoded h ReaderDecoder.assembling_nil_started hs
  unfold State.readerIdle
  split
  · exact hs
  · next hd => exact hready (by simp [hd])
  · exact hs
  · next hd => exact hP.readsCounted _ _ _ (hready (by simp [hd]))
  · next hd => exact hready (by simp [hd])
  · next hd => exact hP.readsCounted _ _ _ (hready (by simp [hd]))

theorem OpKeeps.endShortFrame (hs : P s) : P s.endShortFrame := by
  have hready (h : s.totes.decoder ≠ .stopped) : P (s.setDecoder (.assembling [])) :=
    hP.decoded h ReaderDecoder.assembling_nil_started hs
  unfold State.endShortFrame
  split
  · exact hs
  · next hd => exact hready (by simp [hd])
  · next hd => exact hP.readsCounted _ _ _ (hready (by simp [hd]))
  · next hd => exact hP.readsCounted _ _ _ (hready (by simp [hd]))

theorem OpKeeps.readerActivity (activity : List ReaderEvent) (laneFull : Bool) (hs : P s) :
    P (s.readerActivity activity laneFull) :=
  foldl_keeps
    (fun _ e ht => by
      cases e with
      | idle => exact hP.readerIdle ht
      | character c => exact hP.readerCharacter laneFull c ht) activity s hs

/-! ## Received frames -/

/-- A frame found good has a sender and a payload that check 3 of R68 lets pass. -/
def FrameClass.sound (c : FrameClass) : Prop :=
  ∀ sender sequence payload, c = .good sender sequence payload →
    goodSender sender = true ∧ payload.wellFormed = true

omit hP in
theorem noticeClass_sound (sender sequence : Byte) (payload : Payload) :
    (noticeClass sender sequence payload).sound := by
  intro x y z h
  unfold noticeClass at h
  split at h
  · next hgood => cases h; exact hgood
  · cases h

omit hP in
theorem parseEntries_length : ∀ (n : Nat) (bs : List Byte), bs.length = 6 * n → (parseEntries bs).length = n
  | 0, bs, h => by
    rw [List.length_eq_zero_iff.mp (by omega : bs.length = 0)]
    rfl
  | n + 1, bs, h => by
    match bs, h with
    | bl :: i1 :: i0 :: u :: s1 :: s0 :: rest, h =>
      simp only [List.length_cons] at h
      rw [parseEntries, List.length_cons, parseEntries_length n rest (by omega)]

omit hP in
theorem parsePayload_wellFormed {kind : Byte} {bs : List Byte} {p : Payload} (h : parsePayload kind bs = some p) :
    p.wellFormed = true := by
  unfold parsePayload at h
  split at h
  · cases h; rfl
  · next count rest _ =>
    split at h
    · next hcount =>
      cases h
      simp [Payload.wellFormed, parseEntries_length _ _ hcount.2, hcount.1]
    · cases h
  · cases h; rfl
  · cases h; rfl
  · cases h

omit hP in
theorem classify_sound (bits : List Bool) : (classify bits).sound := by
  intro sender sequence payload h
  unfold classify at h
  split at h
  · unfold classifyBytes at h
    split at h
    · unfold classifyCovered at h
      split at h
      · split at h
        · next hsender =>
          split at h
          · next hp =>
            cases h
            exact ⟨hsender.1, parsePayload_wellFormed hp⟩
          · cases h
        · cases h
      · cases h
    · cases h
  · cases h

theorem OpKeeps.mute (hm : s.ctl.mode ≠ .loading) (hs : P s) : P s.mute := by
  unfold State.mute
  split
  · exact hs
  · next hmuted => exact hP.changeMode _ _ hm hmuted (by simp) (hP.setMode s.ctl.mode none hm hmuted hm hs)

omit hP in
theorem State.mute_mode (s : State) : s.mute.ctl.mode = .muted := by
  unfold State.mute
  split
  · next h => exact h
  · obtain ⟨hctl, -⟩ := (s.setCtl { s.ctl with settleExpiry := none }).changeMode_spec .muted false
    rw [hctl]

theorem OpKeeps.clash (hm : s.ctl.mode ≠ .loading) (hs : P s) : P s.clash := by
  have hmuted := hP.emptied s.mute_mode (hP.mute hm hs)
  refine hP.setFlag _ ?_
  unfold State.emptyQueue
  split
  · next hq => rwa [show s.mute.li = { s.mute.li with queue := [] } by rw [← hq]]
  · exact hP.setFlag _ (hP.countLine _ hmuted)

theorem OpKeeps.receive (c : FrameClass) (hc : c.sound) (hs : P s) : P (s.receive c) := by
  obtain ⟨-, h⟩ | ⟨hm, -, -, h⟩ | ⟨hm, -, -, h⟩ := s.receive_cases c
  · rwa [h]
  · rw [h]; exact hP.seen hm hs
  rw [h]
  cases c with
  | fragment => exact hP.countLine _ hs
  | malformed => exact hP.countLine _ hs
  | crcBad =>
    change P s.countCrcBad
    unfold State.countCrcBad
    dsimp only
    split
    · exact hP.setFlag _ (hP.counted (s.countLine LineCounters.incCrcBad).li.counters true (hP.countLine _ hs))
    · exact hP.countLine _ hs
  | good sender sequence payload =>
    obtain ⟨hsender, hform⟩ := hc sender sequence payload rfl
    have hcounted := hP.countLine LineCounters.incGood hs
    change P (s.goodNotice sender sequence payload)
    unfold State.goodNotice
    dsimp only
    split
    · exact hP.clash hm hcounted
    · next hown =>
      simp only [goodSender, Bool.and_eq_true, decide_eq_true_eq] at hsender
      exact hP.delivered hm hsender.1 hsender.2 hown hform hcounted

/-! ## Commands -/

/-- The commands that do more than these updates: the starts and the settings load, and those of the sending side and
of the two expiries of the Peer Tracker. -/
def startsOrSends : Instr → Bool
  | .hardReset _ | .resetLow | .restart _ _ | .settingsLoad _ | .settingsLoadTimeout => true
  | .attempt _ | .noticeComplete | .collision | .jamEnd | .backoffEnd | .silenceExpiry _ | .refreshExpiry => true
  | _ => false

theorem OpKeeps.serve {rule : List Byte → Bool} {refusal : Status → Reply} {tx : List Byte}
    {owner : List Byte → State → State × Reply}
    (howner : ∀ (block : List Byte) (t : State), t.ctl.mode ≠ .loading → P t → P (owner block t).1) (hs : P s) :
    P (s.whileUp fun t => t.serve rule false refusal tx owner) :=
  State.whileUp_keeps (fun _ => State.serve_keeps hP.toPort fun block t _ hm =>
    howner block t (by simpa using hm)) hs

theorem OpKeeps.report {rule : List Byte → Bool} {open' : Bool} {tx : List Byte} {output : State → List Byte}
    (hs : P s) : P (s.whileUp fun t => t.serve rule open' Reply.refuse tx (reportOwner output)) :=
  State.whileUp_keeps (fun _ => State.serve_keeps hP.toPort fun _ _ _ _ ht => ht) hs

omit hP in
theorem ofBe_pair_le (a b : Byte) : ofBe [a, b] ≤ 65535 := by
  have ha := a.isLt
  have hb := b.isLt
  simp only [ofBe, List.foldl_cons, List.foldl_nil]
  omega

omit hP in
theorem parseItems_value_le : ∀ (block : List Byte), ∀ r ∈ parseItems block, r.value ≤ 65535
  | c1 :: c0 :: v1 :: v0 :: w1 :: w0 :: chill :: rest, r, hr => by
    rw [parseItems] at hr
    rcases List.mem_cons.mp hr with rfl | hr
    · exact ofBe_pair_le v1 v0
    · exact parseItems_value_le rest r hr
  | [], _, hr => by cases hr
  | [_], _, hr => by cases hr
  | [_, _], _, hr => by cases hr
  | [_, _, _], _, hr => by cases hr
  | [_, _, _, _], _, hr => by cases hr
  | [_, _, _, _, _], _, hr => by cases hr
  | [_, _, _, _, _, _], _, hr => by cases hr

theorem OpKeeps.loadRecords (rs : List RawItem) (taken : Nat) (hv : ∀ r ∈ rs, r.value ≤ 65535) (hs : P s) :
    P (s.loadRecords rs taken).1 := by
  induction rs generalizing s taken with
  | nil => exact hs
  | cons r rs ih =>
    unfold State.loadRecords
    split
    · exact hs
    · next hr =>
      exact ih _ (fun x hx => hv x (List.mem_cons_of_mem _ hx))
        (hP.setItems (.taken r hr (hv r List.mem_cons_self)) hs)

theorem OpKeeps.loadItemsOwner (block : List Byte) (hs : P s) : P (loadItemsOwner block s).1 := by
  unfold Machine.loadItemsOwner
  dsimp only
  split
  · exact hs
  · exact hP.loadRecords _ _ (parseItems_value_le _) hs

theorem OpKeeps.removeItemOwner (block : List Byte) (hs : P s) : P (removeItemOwner block s).1 := by
  unfold Machine.removeItemOwner
  dsimp only
  split_ifs with _ _ hused
  · exact hs
  · exact hs
  · exact hs
  · exact hP.setItems (.removed _ (by simpa using hused)) hs

theorem OpKeeps.enablesOwner (block : List Byte) (hs : P s) : P (enablesOwner block s).1 := by
  unfold Machine.enablesOwner
  dsimp only
  split
  · exact hs
  · exact hP.setPort _ hs

theorem OpKeeps.openBuildOwner (block : List Byte) (hm : s.ctl.mode ≠ .loading) (hs : P s) :
    P (openBuildOwner block s).1 := by
  unfold Machine.openBuildOwner
  dsimp only
  split
  · exact hs
  · split
    · exact hs
    · next hempty =>
      split
      · exact hs
      · next hcheck => exact hP.openBuild (by simpa using hempty) hcheck hm hs

theorem OpKeeps.cancelBuildOwner (block : List Byte) (hs : P s) : P (cancelBuildOwner block s).1 := by
  unfold Machine.cancelBuildOwner
  split
  · exact hs
  · split
    · exact hs
    · split
      · exact hs
      · exact hP.returnToEmpty _ hs

theorem OpKeeps.sealBuildOwner (block : List Byte) (hs : P s) : P (sealBuildOwner block s).1 := by
  unfold Machine.sealBuildOwner
  split
  · exact hs
  · split
    · exact hs
    · split
      · exact hs
      · exact hP.returnToEmpty _ hs

omit hP in
theorem Build.hold_kept (bd : Build) : bd.kept bd.hold := Build.kept_of_lines rfl rfl rfl

theorem OpKeeps.holdBaysOwner (block : List Byte) (hs : P s) : P (holdBaysOwner block s).1 :=
  hP.afterBayChanges _ (foldl_keeps (fun _ b => hP.modifyBuild b fun bd _ => bd.hold_kept) _ _ hs)

theorem OpKeeps.releaseBaysOwner (block : List Byte) (hs : P s) : P (releaseBaysOwner block s).1 :=
  hP.afterBayChanges _ (foldl_keeps (fun _ => hP.releaseBay) _ _ hs)

theorem OpKeeps.confirmPickOwner (block : List Byte) (hm : s.ctl.mode ≠ .loading) (hs : P s) :
    P (confirmPickOwner block s).1 := by
  unfold Machine.confirmPickOwner
  split
  · exact hs
  · split
    · exact hs
    · exact hP.confirmPick _ _ (.inl hm) hs

theorem OpKeeps.returnToteOwner (block : List Byte) (hm : s.ctl.mode ≠ .loading) (hs : P s) :
    P (returnToteOwner block s).1 := by
  unfold Machine.returnToteOwner
  split
  · exact hs
  · exact hP.returnTote _ (.inl hm) hs

omit hP in
theorem modeOf_ne_loading {n : Nat} {m : Mode} (h : modeOf n = some m) : m ≠ .loading := by
  unfold modeOf at h
  split at h <;> cases h <;> decide

omit hP in
theorem Mode.settable_iff {m : Mode} : m.settable = true ↔ m = .active ∨ m = .closing ∨ m = .quiet := by
  cases m <;> simp [Mode.settable]

theorem OpKeeps.setModeOwner (block : List Byte) (hs : P s) : P (setModeOwner block s).1 := by
  unfold Machine.setModeOwner
  split
  · exact hs
  · next m hm =>
    split
    · exact hs
    · next hset =>
      rw [Bool.not_eq_false, Mode.settable_iff] at hset
      have hl : s.ctl.mode ≠ .loading := by rcases hset with h | h | h <;> simp [h]
      have hu : s.ctl.mode ≠ .muted := by rcases hset with h | h | h <;> simp [h]
      change P (s.acceptMode m)
      unfold State.acceptMode
      split_ifs
      · exact hs
      · exact hP.closingCheck (hP.changeMode _ _ hl hu (by simp) hs)
      · exact hP.changeMode _ _ hl hu (modeOf_ne_loading hm) hs

theorem OpKeeps.writeSettingsOwner (block : List Byte) (hs : P s) : P (writeSettingsOwner block s).1 := by
  unfold Machine.writeSettingsOwner
  split_ifs
  · exact hs
  · exact hs
  · exact hP.writing _ _ hs

theorem OpKeeps.endWriteAccess (hs : P s) : P s.endWriteAccess := by
  unfold State.endWriteAccess
  split
  · exact hP.writing s.loader.state _ hs
  · exact hP.setFlag _ (hP.writing _ _ hs)
  · exact hs
  · exact hs

theorem OpKeeps.timeoutWriteAccess (hs : P s) : P s.timeoutWriteAccess := by
  unfold State.timeoutWriteAccess
  split
  · exact hP.setFlag _ (hP.writing _ _ hs)
  · exact hs
  · exact hs

theorem OpKeeps.fetch (clocked : Nat) (hs : P s) : P (s.fetch clocked) := by
  unfold State.fetch
  split
  · exact hP.setPort _ hs
  · exact hP.setPort _ hs

theorem OpKeeps.unknownRequest (code : Byte) (tx : List Byte) (hs : P s) : P (s.unknownRequest code tx) := by
  unfold State.unknownRequest
  split_ifs
  · exact hs
  · exact hP.setPort _ hs
  · exact hP.setPort _ (hP.setPort _ hs)

end

/-- An event that keeps something keeps it whether RESET is low or not. -/
theorem whileUp_keeps_of {P : State → Prop} {s : State} {f : State → State} (hf : P (f s)) (hs : P s) :
    P (s.whileUp f) := State.whileUp_keeps (fun _ _ => hf) hs

/-- What the single updates keep, every command but the starts and the sending side keeps. -/
theorem OpKeeps.exec {P : State → Prop} (hP : OpKeeps P) {c : Instr} {s t : State} (hc : startsOrSends c = false)
    (h : exec c s = .next t) (hs : P s) : P t := by
  cases c with
  | hardReset straps => cases hc
  | resetLow => cases hc
  | restart straps tx => cases hc
  | settingsLoad record => cases hc
  | settingsLoadTimeout => cases hc
  | attempt lineIdle => cases hc
  | noticeComplete => cases hc
  | collision => cases hc
  | jamEnd => cases hc
  | backoffEnd => cases hc
  | silenceExpiry peer => cases hc
  | refreshExpiry => cases hc
  | settleExpiry => cases h; exact whileUp_keeps_of (hP.takeSettle hs) hs
  | readIdentity tx => cases h; exact hP.report hs
  | readStatus tx => cases h; exact hP.report hs
  | readClock tx => cases h; exact hP.report hs
  | readLane laneFull tx => cases h; exact hP.report hs
  | readSettings tx => cases h; exact hP.report hs
  | readEvents tx => cases h; exact hP.serve (fun _ _ _ ht => hP.setPort _ ht) hs
  | setEventEnables tx => cases h; exact hP.serve (fun block _ _ => hP.enablesOwner block) hs
  | loadItems tx => cases h; exact hP.serve (fun block _ _ => hP.loadItemsOwner block) hs
  | removeItem tx => cases h; exact hP.serve (fun block _ _ => hP.removeItemOwner block) hs
  | openBuild tx => cases h; exact hP.serve (fun block _ hm => hP.openBuildOwner block hm) hs
  | cancelBuild tx => cases h; exact hP.serve (fun block _ _ => hP.cancelBuildOwner block) hs
  | sealBuild tx => cases h; exact hP.serve (fun block _ _ => hP.sealBuildOwner block) hs
  | holdBays tx => cases h; exact hP.serve (fun block _ _ => hP.holdBaysOwner block) hs
  | releaseBays tx => cases h; exact hP.serve (fun block _ _ => hP.releaseBaysOwner block) hs
  | readBay tx =>
    cases h
    exact hP.serve (fun block t _ ht => by
      unfold readBayOwner
      split
      · exact ht
      · exact ht) hs
  | confirmPick tx => cases h; exact hP.serve (fun block _ hm => hP.confirmPickOwner block hm) hs
  | returnTote tx => cases h; exact hP.serve (fun block _ hm => hP.returnToteOwner block hm) hs
  | readDeviations tx =>
    cases h
    exact hP.serve (fun block t _ ht => by
      unfold readDeviationsOwner
      dsimp only
      split
      · exact ht
      · exact ht) hs
  | clearDeviations tx => cases h; exact hP.serve (fun _ _ _ => hP.setDev _) hs
  | setMode tx => cases h; exact hP.serve (fun block _ _ => hP.setModeOwner block) hs
  | readPeers tx =>
    cases h
    exact hP.serve (fun block t _ ht => by
      unfold readPeersOwner
      split
      · exact ht
      · exact ht) hs
  | readLineCounters tx => cases h; exact hP.serve (fun _ _ _ => hP.counted _ _) hs
  | writeSettings tx => cases h; exact hP.serve (fun block _ _ => hP.writeSettingsOwner block) hs
  | writeAccessEnd => cases h; exact whileUp_keeps_of (hP.endWriteAccess hs) hs
  | writeAccessTimeout => cases h; exact whileUp_keeps_of (hP.timeoutWriteAccess hs) hs
  | fetchTransaction clocked => cases h; exact whileUp_keeps_of (hP.fetch clocked hs) hs
  | tagRead earlier last laneFull =>
    cases h
    exact whileUp_keeps_of (hP.readerCharacter laneFull last (hP.readerActivity earlier laneFull hs)) hs
  | shortReaderFrame => cases h; exact whileUp_keeps_of (hP.endShortFrame hs) hs
  | arrival lowMicros =>
    cases h
    refine whileUp_keeps_of ?_ hs
    split
    · exact hs
    · exact hP.arrival hs
  | divertPulseEnd => cases h; exact whileUp_keeps_of (hP.laneKept _ le_rfl hs) hs
  | mergePulseEnd => cases h; exact whileUp_keeps_of (hP.laneKept _ le_rfl hs) hs
  | divertConfirmExpiry tote => cases h; exact whileUp_keeps_of (hP.takeConfirmExpiry tote hs) hs
  | dwellExpiry tote => cases h; exact whileUp_keeps_of (hP.takeDwell tote hs) hs
  | chillWindowExpiry bay => cases h; exact whileUp_keeps_of (hP.takeChill bay hs) hs
  | deadlineExpiry bay =>
    cases h
    refine whileUp_keeps_of ?_ hs
    split
    · exact hP.takeDeadline bay hs
    · exact hs
  | substituteWaitExpiry bay line =>
    cases h
    refine whileUp_keeps_of ?_ hs
    split
    · exact hP.trial bay line.val hs
    · exact hs
  | badFrame levels => cases h; exact whileUp_keeps_of (hP.receive _ (classify_sound _) hs) hs
  | joinNotice sender sequence laneCapacity bayCount revision =>
    cases h; exact whileUp_keeps_of (hP.receive _ (noticeClass_sound _ _ _) hs) hs
  | demandNotice sender sequence entries =>
    cases h; exact whileUp_keeps_of (hP.receive _ (noticeClass_sound _ _ _) hs) hs
  | drawNotice sender sequence tote serial item units remaining =>
    cases h; exact whileUp_keeps_of (hP.receive _ (noticeClass_sound _ _ _) hs) hs
  | tallyNotice sender sequence tote serial item remaining =>
    cases h; exact whileUp_keeps_of (hP.receive _ (noticeClass_sound _ _ _) hs) hs
  | clockTick => cases h; exact whileUp_keeps_of (hP.setClock _ hs) hs
  | unknownRequestCode code tx => cases h; exact whileUp_keeps_of (hP.unknownRequest code tx hs) hs

end Sys2Proof.Machine

/-! PROOF. The outgoing queue and the transmitter (R55, R60 to R67, R74): what an offer, an attempt and the end of one
leave of them, and the invariant every step keeps; and that a MUTED station queues and sends nothing (R168). -/

namespace Sys2Proof.Machine

/-! ## The Line Interface on its own -/

/-- The Line Interface's part of `lineSound` while RESET is not low. -/
structure LineInterface.sound (l : LineInterface) : Prop where
  queue : l.queueSound
  transmitter : l.transmitterSound
  unseen : l.idleSeen = false → l.phase = .waiting ∧ ∀ n ∈ l.queue, n.attempts = 0
  waits : l.phase = .waiting → ∀ n ∈ l.queue, n.attempts ≤ 7

/-- In LOADING nothing is queued, in the lane or pending, and no idle line has been seen. -/
def State.loadingQuiet (s : State) : Prop :=
  s.ctl.mode = .loading → s.li.queue = [] ∧ s.lane.queue = [] ∧ s.peers.refreshExpiry = none ∧ s.li.idleSeen = false

theorem State.lineSound_of_up {s : State} (h : s.resetLow = false) :
    s.lineSound ↔ s.li.sound ∧ s.loadingQuiet := by
  constructor
  · rintro ⟨hqueue, htx, hloading, hunseen, hwaits⟩
    exact ⟨⟨hqueue, htx, hunseen, hwaits h⟩, hloading⟩
  · rintro ⟨⟨hqueue, htx, hunseen, hwaits⟩, hloading⟩
    exact ⟨hqueue, htx, hloading, hunseen, fun _ => hwaits⟩

/-- A count of the line interface's own leaves its queue and transmitter alone (R71). -/
theorem LineInterface.sound.counted {l : LineInterface} (h : l.sound) (c : LineCounters) :
    ({ l with counters := c } : LineInterface).sound :=
  ⟨h.queue, h.transmitter, h.unseen, h.waits⟩

/-- A Line Interface whose queue and phase are sound and which has been started waits soundly. -/
theorem LineInterface.stopped_sound : LineInterface.stopped.sound := by
  refine ⟨⟨by decide, by decide, by simp [LineInterface.stopped], by simp [LineInterface.stopped]⟩, ⟨rfl, rfl⟩,
    fun _ => ⟨rfl, by simp [LineInterface.stopped]⟩, fun _ => by simp [LineInterface.stopped]⟩

/-- The transmitter stays sound when the queue changes behind a head in flight. -/
theorem LineInterface.transmitterSound_of_queue {l : LineInterface} {q : List Notice} (h : l.transmitterSound)
    (hhead : ∀ lo hi, 1 ≤ lo → l.headAttempts lo hi → ({ l with queue := q } : LineInterface).headAttempts lo hi) :
    ({ l with queue := q } : LineInterface).transmitterSound := by
  unfold LineInterface.transmitterSound at h ⊢
  cases hp : l.phase with
  | waiting => rw [hp] at h; exact h
  | backoff r => rw [hp] at h; exact ⟨h.1, h.2.1, hhead _ _ le_rfl h.2.2⟩
  | sending frame => rw [hp] at h; exact ⟨h.1, h.2.1, hhead _ _ le_rfl h.2.2⟩
  | jamming => rw [hp] at h; exact ⟨h.1, h.2.1, hhead _ _ le_rfl h.2.2⟩

theorem LineInterface.headAttempts_append {l : LineInterface} {lo hi : Nat} (n : Notice)
    (h : l.headAttempts lo hi) : ({ l with queue := l.queue ++ [n] } : LineInterface).headAttempts lo hi := by
  obtain ⟨m, rest, hq, hlo, hhi⟩ := h
  exact ⟨m, rest ++ [n], by simp [hq], hlo, hhi⟩

/-- A notice joins the tail of a sound queue that has a place for it (R61, R62). -/
theorem LineInterface.sound_append {l : LineInterface} (h : l.sound) (p : Option Payload) (hplace : l.queue.length < 12)
    (hmarker : p = none → l.queue.any Notice.isMarker = false) :
    ({ l with queue := l.queue ++ [Notice.fresh p] } : LineInterface).sound := by
  obtain ⟨⟨-, hmarkers, hrest, hnotice⟩, htx, hunseen, hwaits⟩ := h
  refine ⟨⟨?_, ?_, ?_, ?_⟩, LineInterface.transmitterSound_of_queue htx fun _ _ _ => LineInterface.headAttempts_append _,
    fun hi => ⟨(hunseen hi).1, ?_⟩, fun hp => ?_⟩
  · simp only [List.length_append, List.length_singleton]
    omega
  · cases p with
    | some p => simpa [List.filter_append, Notice.fresh] using hmarkers
    | none =>
      have hnone : (l.queue.filter fun n => n.payload.isNone) = [] := by
        simpa [List.filter_eq_nil_iff, Notice.isMarker] using hmarker rfl
      simp [List.filter_append, Notice.fresh, hnone]
  · intro n hn
    rw [List.drop_append] at hn
    rcases List.mem_append.mp hn with hn | hn
    · exact hrest n hn
    · have := List.mem_of_mem_drop hn
      simp only [List.mem_singleton] at this
      subst this
      rfl
  · intro n hn
    rcases List.mem_append.mp hn with hn | hn
    · exact hnotice n hn
    · simp only [List.mem_singleton] at hn
      subst hn
      simp [Notice.fresh]
  · intro n hn
    rcases List.mem_append.mp hn with hn | hn
    · exact (hunseen hi).2 n hn
    · simp only [List.mem_singleton] at hn
      subst hn
      rfl
  · intro n hn
    rcases List.mem_append.mp hn with hn | hn
    · exact hwaits hp n hn
    · simp only [List.mem_singleton] at hn
      subst hn
      simp [Notice.fresh]

/-- The head of a queue in flight is no marker, so the marker removed stands behind it (R60, R61). -/
theorem LineInterface.headAttempts_eraseMarker {l : LineInterface} {lo hi : Nat} (hlo : 1 ≤ lo) (hq : l.queueSound)
    (h : l.headAttempts lo hi) :
    ({ l with queue := l.queue.eraseP Notice.isMarker } : LineInterface).headAttempts lo hi := by
  obtain ⟨n, rest, hcons, hn, hhi⟩ := h
  obtain ⟨-, -, -, hnotice⟩ := hq
  have hflight : n.isMarker = false := by
    obtain ⟨-, -, hmarker⟩ := hnotice n (by simp [hcons])
    by_contra hm
    have := hmarker (by simpa [Notice.isMarker] using hm)
    omega
  exact ⟨n, rest.eraseP Notice.isMarker, by simp [hcons, hflight], hn, hhi⟩

/-- A marker gives up its place (R61, step 2). -/
theorem LineInterface.sound_eraseMarker {l : LineInterface} (h : l.sound) :
    ({ l with queue := l.queue.eraseP Notice.isMarker } : LineInterface).sound := by
  obtain ⟨hqueue, htx, hunseen, hwaits⟩ := h
  obtain ⟨hlen, hmarkers, hrest, hnotice⟩ := id hqueue
  have hsub : (l.queue.eraseP Notice.isMarker).Sublist l.queue := List.eraseP_sublist
  refine ⟨⟨hsub.length_le.trans hlen, (hsub.filter _).length_le.trans hmarkers, fun n hn => ?_,
    fun n hn => hnotice n (hsub.mem hn)⟩,
    LineInterface.transmitterSound_of_queue htx fun _ _ hlo => LineInterface.headAttempts_eraseMarker hlo hqueue,
    fun hi => ⟨(hunseen hi).1, fun n hn => (hunseen hi).2 n (hsub.mem hn)⟩, fun hp n hn => hwaits hp n (hsub.mem hn)⟩
  have hdrop : ((l.queue.eraseP Notice.isMarker).drop 1).Sublist (l.queue.drop 1) := hsub.drop 1
  exact hrest n (hdrop.mem hn)

/-- An offered notice joins a sound queue soundly (R61). -/
theorem LineInterface.sound_join {l : LineInterface} {p : Payload} {q : List Notice} (h : l.sound)
    (hq : joinQueue l.queue p = some q) : ({ l with queue := q } : LineInterface).sound := by
  unfold joinQueue at hq
  split at hq
  · next hplace =>
    cases hq
    exact LineInterface.sound_append h (some p) hplace (by simp)
  · split at hq
    · next hmarker =>
      cases hq
      have hlen : (l.queue.eraseP Notice.isMarker).length < 12 := by
        rw [List.any_eq_true] at hmarker
        obtain ⟨n, hn, hm⟩ := hmarker
        have herased := List.length_eraseP_of_mem hn hm
        have hpos := List.length_pos_of_mem hn
        have hmax := h.queue.1
        omega
      exact LineInterface.sound_append (LineInterface.sound_eraseMarker h) (some p) hlen (by simp)
    · cases hq

/-- An empty queue and a transmitter at rest are sound (R70). -/
theorem LineInterface.sound_emptied (l : LineInterface) : (({ l with queue := [] } : LineInterface).release .waiting).sound :=
  ⟨⟨by simp [LineInterface.release], by simp [LineInterface.release], by simp [LineInterface.release],
    by simp [LineInterface.release]⟩, ⟨rfl, rfl⟩, fun _ => ⟨rfl, by simp [LineInterface.release]⟩,
    fun _ => by simp [LineInterface.release]⟩

/-! ## The operations of the part -/

/-- The invariant while RESET is not low. -/
def State.lineUp (s : State) : Prop := s.li.sound ∧ s.loadingQuiet

theorem State.rosterUpdate_li_sound {s : State} (p : Nat) (isJoin : Bool) (sequence : Byte) (hs : s.li.sound) :
    (s.rosterUpdate p isJoin sequence).li.sound := by
  unfold State.rosterUpdate
  dsimp only
  split
  · exact hs.counted _
  · exact hs

theorem State.offerMarker_li_sound {s : State} (hs : s.li.sound) : s.offerMarker.li.sound := by
  unfold State.offerMarker
  split
  · next h =>
    obtain ⟨-, hplace, hnone⟩ := h
    exact LineInterface.sound_append hs none hplace fun _ => hnone
  · exact hs

theorem State.deliver_li_sound {s : State} (p : Nat) (sequence : Byte) (payload : Payload) (hs : s.li.sound) :
    (s.deliver p sequence payload).li.sound := by
  have hroster := s.rosterUpdate_li_sound p payload.isJoin sequence hs
  unfold State.deliver
  cases payload with
  | join capacity bays revision => exact State.offerMarker_li_sound hroster
  | demand entries =>
    have hli := State.takeEntries_changedOnly p entries ((s.rosterUpdate p false sequence).removeHeard p) [] .li (by simp)
    have : (((s.rosterUpdate p false sequence).removeHeard p).takeEntries p entries []).li
        = (s.rosterUpdate p false sequence).li := hli
    change (((s.rosterUpdate p false sequence).removeHeard p).takeEntries p entries []).li.sound
    rw [this]
    exact hroster
  | draw tote serial item units remaining =>
    have hli := State.heardDraw_changedOnly (s.rosterUpdate p false sequence) tote serial item units remaining .li (by simp)
    have : ((s.rosterUpdate p false sequence).heardDraw tote serial item units remaining).li
        = (s.rosterUpdate p false sequence).li := hli
    change ((s.rosterUpdate p false sequence).heardDraw tote serial item units remaining).li.sound
    rw [this]
    exact hroster
  | tally tote serial item remaining =>
    have hli := State.heardTally_changedOnly (s.rosterUpdate p false sequence) tote serial item remaining .li (by simp)
    have : ((s.rosterUpdate p false sequence).heardTally tote serial item remaining).li
        = (s.rosterUpdate p false sequence).li := hli
    change ((s.rosterUpdate p false sequence).heardTally tote serial item remaining).li.sound
    rw [this]
    exact hroster

theorem lineUp_opKeeps : OpKeeps State.lineUp where
  setItems _ hs := hs
  setBays _ hs := hs
  setPort _ hs := hs
  setDev _ hs := hs
  setDraws _ hs := hs
  setClock _ hs := hs
  writing _ _ hs := hs
  setMode m e _ _ hm hs := ⟨hs.1, fun h => absurd h hm⟩
  counted _ _ hs := ⟨⟨hs.1.queue, hs.1.transmitter, hs.1.unseen, hs.1.waits⟩, hs.2⟩
  marked hm _ hplace hnone hs := ⟨LineInterface.sound_append hs.1 none hplace fun _ => hnone, fun h => absurd h hm⟩
  joined hoffer _ hq hs := ⟨LineInterface.sound_join hs.1 hq, fun h => by
    obtain ⟨-, hlane, -⟩ := hs.2 h
    exact (hoffer.elim (fun hm => hm h) fun hne => hne hlane).elim⟩
  emptied hm _ := ⟨LineInterface.sound_emptied _, fun h => by cases hm.symm.trans h⟩
  seen hm hs := ⟨⟨hs.1.queue, hs.1.transmitter, fun h => (by cases h), hs.1.waits⟩, fun h => absurd h hm⟩
  laneKept v hv hs := ⟨hs.1, fun h => by
    obtain ⟨hqueue, hlane, hrefresh⟩ := hs.2 h
    rw [hlane, List.length_nil, Nat.le_zero, List.length_eq_zero_iff] at hv
    exact ⟨hqueue, hv, hrefresh⟩⟩
  laneJoined v hm hs := ⟨hs.1, fun h => by
    change _ = _ at h
    rcases hm with hm | hm <;> cases hm.symm.trans h⟩
  mapped _ hs := hs
  put _ hs := hs
  decoded _ _ hs := hs
  readsCounted _ _ _ hs := hs
  delivered {s p sequence payload} hm _ _ _ _ hs := by
    refine ⟨State.deliver_li_sound _ _ _ hs.1, fun h => ?_⟩
    rw [show (s.deliver p sequence payload).ctl = s.ctl from s.deliver_changedOnly p sequence payload .ctl (by simp)] at h
    exact absurd h hm

/-! ## Starts and the sending side -/

theorem State.enterSettling_lineUp {s : State} (hm : s.ctl.mode = .loading) (hs : s.lineUp) :
    s.enterSettling.lineUp := by
  obtain ⟨hsound, hloading⟩ := hs
  obtain ⟨hqueue, -, -, hidle⟩ := hloading hm
  refine ⟨?_, fun h => by cases h⟩
  have happended := LineInterface.sound_append hsound (some s.joinPayload) (by simp [hqueue]) (by simp)
  refine ⟨happended.queue, happended.transmitter, fun _ => ?_, happended.waits⟩
  exact happended.unseen hidle

theorem State.endLoad_lineUp {s : State} (r : Settings × LoadOutcome) (hs : s.lineUp) : (s.endLoad r).lineUp := by
  unfold State.endLoad
  split
  · next h =>
    have hkept := s.loadOutcome_changedOnly r
    have hctl : (s.loadOutcome r).ctl = s.ctl := hkept .ctl (by simp)
    have hli : (s.loadOutcome r).li = s.li := hkept .li (by simp)
    have hlane : (s.loadOutcome r).lane = s.lane := hkept .lane (by simp)
    have hpeers : (s.loadOutcome r).peers = s.peers := hkept .peers (by simp)
    refine State.enterSettling_lineUp (by rw [hctl]; exact h.2) ?_
    rw [State.lineUp, State.loadingQuiet, hli, hctl, hlane, hpeers]
    exact hs
  · exact hs

theorem State.restartRequest_lineUp {s : State} (straps : BitVec 5) (tx : List Byte) (hs : s.lineUp) :
    (s.restartRequest straps tx).lineUp := by
  unfold State.restartRequest
  split
  · exact hs
  · split
    · exact hs
    · exact ⟨LineInterface.stopped_sound, fun _ => ⟨rfl, rfl, rfl, rfl⟩⟩

theorem State.firstAttempt_lineUp {s : State} {n : Notice} {rest : List Notice} (hm : s.ctl.mode ≠ .loading)
    (hq : s.li.queue = n :: rest) (hi : s.li.idleSeen = true) (hs : s.lineUp) : (s.firstAttempt n rest).lineUp := by
  obtain ⟨hlen, hmarkers, hrest, hnotice⟩ := hs.1.queue
  rw [hq] at hlen hmarkers hrest hnotice
  refine ⟨⟨⟨hlen, ?_, hrest, ?_⟩, ⟨rfl, rfl, _, rest, rfl, le_rfl, by simp⟩, fun h => ?_, fun h => by cases h⟩,
    fun h => absurd h hm⟩
  · refine le_trans ?_ hmarkers
    simp only [State.firstAttempt, State.setLi_li, LineInterface.transmit, List.filter_cons]
    split
    · next h => cases h
    · split <;> simp
  · intro x hx
    rcases List.mem_cons.mp hx with rfl | hx
    · simp
    · exact hnotice x (List.mem_cons_of_mem _ hx)
  · cases hi.symm.trans h

theorem State.laterAttempt_lineUp {s : State} {n : Notice} {rest : List Notice} (hm : s.ctl.mode ≠ .loading)
    (hp : s.li.phase = .waiting) (hq : s.li.queue = n :: rest) (hn : n.attempts ≠ 0) (hi : s.li.idleSeen = true)
    (hs : s.lineUp) : (s.laterAttempt n rest).lineUp := by
  obtain ⟨hlen, hmarkers, hrest, hnotice⟩ := hs.1.queue
  have hseven := hs.1.waits hp n (by simp [hq])
  rw [hq] at hlen hmarkers hrest hnotice
  obtain ⟨-, hsequence, hmarker⟩ := hnotice n (by simp)
  refine ⟨⟨⟨hlen, ?_, hrest, ?_⟩, ⟨rfl, rfl, _, rest, rfl, Nat.succ_pos _, Nat.succ_le_succ hseven⟩, fun h => ?_,
    fun h => by cases h⟩, fun h => absurd h hm⟩
  · rw [List.filter_cons] at hmarkers
    simp only [State.laterAttempt, State.setLi_li, LineInterface.transmit, List.filter_cons]
    split_ifs at hmarkers ⊢ <;> exact hmarkers
  · intro x hx
    rcases List.mem_cons.mp hx with rfl | hx
    · refine ⟨Nat.succ_le_succ hseven, ?_, fun hnone => absurd (hmarker hnone) hn⟩
      have := mt hsequence.mpr hn
      simpa using this
    · exact hnotice x (List.mem_cons_of_mem _ hx)
  · cases hi.symm.trans h

theorem State.attempt_lineUp {s : State} (lineIdle : Bool) (hs : s.lineUp) : (s.attempt lineIdle).lineUp := by
  obtain ⟨-, h⟩ | ⟨-, hm, ⟨-, h⟩ | ⟨n, rest, -, hp, hq, h⟩⟩ := s.attempt_cases lineIdle
  · rwa [h]
  · rw [h]; exact lineUp_opKeeps.seen hm hs
  · rw [h]
    have hseen := lineUp_opKeeps.seen hm hs
    split
    · exact State.firstAttempt_lineUp hm hq rfl hseen
    · next hn => exact State.laterAttempt_lineUp hm hp hq hn rfl hseen

/-- The head leaves a sound queue (R65, R67). -/
theorem LineInterface.sound_dropHead {l : LineInterface} {n : Notice} {rest : List Notice} (h : l.sound)
    (hq : l.queue = n :: rest) : (({ l with queue := rest } : LineInterface).release .waiting).sound := by
  obtain ⟨hlen, hmarkers, hrest, hnotice⟩ := h.queue
  rw [hq] at hlen hmarkers hrest hnotice
  have hzero : ∀ x ∈ rest, x.attempts = 0 := hrest
  refine ⟨⟨?_, ?_, fun x hx => hzero x (List.mem_of_mem_drop hx), fun x hx => hnotice x (List.mem_cons_of_mem _ hx)⟩,
    ⟨rfl, rfl⟩, fun _ => ⟨rfl, hzero⟩, fun _ x hx => by rw [hzero x hx]; omega⟩
  · exact (Nat.le_succ _).trans hlen
  · refine le_trans ?_ hmarkers
    exact ((List.sublist_cons_self n rest).filter _).length_le

/-- A transmitter that is not waiting has a head in flight, so an idle line has been seen. -/
theorem LineInterface.sound.idleSeen {l : LineInterface} (h : l.sound) (hp : l.phase ≠ .waiting) : l.idleSeen = true := by
  by_contra hi
  exact hp (h.unseen (by simpa using hi)).1

/-- In LOADING the transmitter waits. -/
theorem State.lineUp.not_loading {s : State} (hs : s.lineUp) (hp : s.li.phase ≠ .waiting) : s.ctl.mode ≠ .loading := by
  intro hm
  obtain ⟨-, -, -, hidle⟩ := hs.2 hm
  exact hp (hs.1.unseen hidle).1

theorem State.completeNotice_lineUp {s : State} (hs : s.lineUp) : s.completeNotice.lineUp := by
  unfold State.completeNotice
  split
  · next frame n rest hp hq =>
    have hm := hs.not_loading (by rw [hp]; simp)
    exact ⟨(LineInterface.sound_dropHead hs.1 hq).counted _, fun h => absurd h hm⟩
  · exact hs

theorem State.collide_lineUp {s : State} (hs : s.lineUp) : s.collide.lineUp := by
  unfold State.collide
  split
  · next frame hp =>
    have hm := hs.not_loading (by rw [hp]; simp)
    have htx := hs.1.transmitter
    rw [LineInterface.transmitterSound, hp] at htx
    refine ⟨⟨hs.1.queue, htx, fun h => ?_, fun h => by cases h⟩, fun h => absurd h hm⟩
    cases (hs.1.idleSeen (by rw [hp]; simp)).symm.trans h
  · exact hs
  · exact hs
  · exact hs

theorem State.endJam_lineUp {s : State} (hs : s.lineUp) : s.endJam.lineUp := by
  unfold State.endJam
  split
  · next n rest hp hq =>
    have hm := hs.not_loading (by rw [hp]; simp)
    have hidle := hs.1.idleSeen (by rw [hp]; simp)
    have htx := hs.1.transmitter
    rw [LineInterface.transmitterSound, hp] at htx
    obtain ⟨-, -, n', rest', hq', hlo, -⟩ := htx
    obtain ⟨rfl, rfl⟩ := List.cons.inj (hq.symm.trans hq')
    split
    · next hn =>
      refine ⟨⟨hs.1.queue, ⟨rfl, rfl, n, rest, hq, hlo, Nat.le_of_lt_succ hn⟩, fun h => ?_, fun h => by cases h⟩,
        fun h => absurd h hm⟩
      cases hidle.symm.trans h
    · exact ⟨(LineInterface.sound_dropHead hs.1 hq).counted _, fun h => absurd h hm⟩
  · exact hs

theorem State.endBackoff_lineUp {s : State} (hs : s.lineUp) : s.endBackoff.lineUp := by
  unfold State.endBackoff
  split
  · next r hp =>
    have hm := hs.not_loading (by rw [hp]; simp)
    have hidle := hs.1.idleSeen (by rw [hp]; simp)
    have htx := hs.1.transmitter
    rw [LineInterface.transmitterSound, hp] at htx
    obtain ⟨hlde, hltxd, n, rest, hq, -, hseven⟩ := htx
    refine ⟨⟨hs.1.queue, ⟨hlde, hltxd⟩, fun h => ?_, fun _ x hx => ?_⟩, fun h => absurd h hm⟩
    · cases hidle.symm.trans h
    · obtain ⟨-, -, hrest, -⟩ := hs.1.queue
      change x ∈ s.li.queue at hx
      rw [hq] at hx hrest
      rcases List.mem_cons.mp hx with rfl | hx
      · exact hseven
      · rw [hrest x hx]; omega
  · exact hs
  · exact hs
  · exact hs

theorem State.takeRefresh_lineUp {s : State} (hs : s.lineUp) : s.takeRefresh.lineUp := by
  unfold State.takeRefresh
  split
  · exact hs
  · next e he =>
    split
    · have hm : s.ctl.mode ≠ .loading := by
        intro hm
        obtain ⟨-, -, hnone, -⟩ := hs.2 hm
        cases he.symm.trans hnone
      have hset : (s.setPeers { s.peers with refreshExpiry := s.nextRefresh e }).lineUp := ⟨hs.1, fun h => absurd h hm⟩
      exact lineUp_opKeeps.offerMarker hm hset
    · exact hs

theorem State.takeSilence_lineUp {s : State} (p : Nat) (hs : s.lineUp) : (s.takeSilence p).lineUp := by
  unfold State.takeSilence
  split
  · exact hs
  · exact hs

/-! ## The invariant -/

theorem exec_lineUp {c : Instr} {s t : State} (hreset : ∀ straps, c ≠ .hardReset straps) (hlow : c ≠ .resetLow)
    (h : exec c s = .next t) (hs : s.lineUp) : t.lineUp := by
  cases c with
  | hardReset straps => exact absurd rfl (hreset straps)
  | resetLow => exact absurd rfl hlow
  | restart straps tx => cases h; exact whileUp_keeps_of (State.restartRequest_lineUp _ _ hs) hs
  | settingsLoad record => cases h; exact whileUp_keeps_of (State.endLoad_lineUp _ hs) hs
  | settingsLoadTimeout => cases h; exact whileUp_keeps_of (State.endLoad_lineUp _ hs) hs
  | attempt lineIdle => cases h; exact whileUp_keeps_of (State.attempt_lineUp _ hs) hs
  | noticeComplete => cases h; exact whileUp_keeps_of (State.completeNotice_lineUp hs) hs
  | collision => cases h; exact whileUp_keeps_of (State.collide_lineUp hs) hs
  | jamEnd => cases h; exact whileUp_keeps_of (State.endJam_lineUp hs) hs
  | backoffEnd => cases h; exact whileUp_keeps_of (State.endBackoff_lineUp hs) hs
  | silenceExpiry peer => cases h; exact whileUp_keeps_of (State.takeSilence_lineUp _ hs) hs
  | refreshExpiry => cases h; exact whileUp_keeps_of (State.takeRefresh_lineUp hs) hs
  | _ => exact lineUp_opKeeps.exec rfl h hs

/-- RESET_LOW cuts off what is sent; the queue stays, an eighth attempt among it (R161). -/
theorem State.lowerReset_lineSound {s : State} (hs : s.lineSound) : s.lowerReset.lineSound := by
  obtain ⟨hqueue, -, hloading, hunseen, -⟩ := hs
  exact ⟨hqueue, ⟨rfl, rfl⟩, hloading, fun h => ⟨rfl, (hunseen h).2⟩, fun h => by cases h⟩

theorem exec_lineSound {c : Instr} {s t : State} (h : exec c s = .next t) (hs : s.lineSound) : t.lineSound :=
  exec_keeps_of_up (fun _ => State.lineSound_of_up)
    (fun _ _ => (State.lineSound_of_up rfl).mpr ⟨LineInterface.stopped_sound, fun _ => ⟨rfl, rfl, rfl, rfl⟩⟩)
    (fun _ => State.lowerReset_lineSound) (fun hreset hlow _ => exec_lineUp hreset hlow) h hs

/-- Settles O53. -/
theorem stepKeepsTheLineInterfaceSound : Obligations.StepKeepsTheLineInterfaceSound := fun _ _ hs h =>
  step_keeps (fun _ _ hs => hs) (fun _ _ _ => exec_lineSound) h hs

end Sys2Proof.Machine

/-! PROOF. MUTED ends only at a start (R168): what a MUTED station keeps, for each single update and for the sending
side. -/

namespace Sys2Proof.Machine

/-- MUTED, with no more notices queued and no more totes in the lane than these, and not transmitting if `quiet`. -/
def State.mutedWithin (queued inLane : Nat) (quiet : Prop) (s : State) : Prop :=
  s.ctl.mode = .muted ∧ s.li.queue.length ≤ queued ∧ (quiet → s.li.lde = false) ∧ s.lane.queue.length ≤ inLane

theorem State.mutedWithin_of_same {queued inLane : Nat} {quiet : Prop} {s t : State} (hctl : t.ctl = s.ctl)
    (hqueue : t.li.queue = s.li.queue) (hlde : t.li.lde = s.li.lde) (hlane : t.lane = s.lane)
    (hs : s.mutedWithin queued inLane quiet) : t.mutedWithin queued inLane quiet := by
  rwa [State.mutedWithin, hctl, hqueue, hlde, hlane]

/-- A MUTED station is offered no marker (R62). -/
theorem State.offerMarker_of_muted {s : State} (h : s.ctl.mode = .muted) : s.offerMarker = s :=
  if_neg fun hn => hn.1 h

/-- The roster update counts at most a gap at the Line Interface (R78). -/
theorem State.rosterUpdate_li (s : State) (p : Nat) (isJoin : Bool) (sequence : Byte) :
    (s.rosterUpdate p isJoin sequence).li
      = { s.li with counters := if revealsGap (s.peer p) isJoin sequence = true then s.li.counters.incGaps
          else s.li.counters } := by
  unfold State.rosterUpdate
  dsimp only
  split
  · rfl
  · rfl

/-- A notice delivered to a MUTED station queues nothing (R62). -/
theorem State.deliver_li_of_muted {s : State} (p : Nat) (sequence : Byte) (payload : Payload)
    (hm : s.ctl.mode = .muted) :
    (s.deliver p sequence payload).li = (s.rosterUpdate p payload.isJoin sequence).li := by
  have hctl (isJoin : Bool) : (s.rosterUpdate p isJoin sequence).ctl = s.ctl :=
    s.rosterUpdate_changedOnly p isJoin sequence .ctl (by simp)
  cases payload with
  | join capacity bays revision =>
    change (((s.rosterUpdate p true sequence).removeHeard p).offerMarker).li = _
    rw [State.offerMarker_of_muted (s := (s.rosterUpdate p true sequence).removeHeard p)
      ((congrArg ModeControl.mode (hctl true)).trans hm)]
    rfl
  | demand entries => exact State.takeEntries_changedOnly p entries _ [] .li (by simp)
  | draw tote serial item units remaining => exact State.heardDraw_changedOnly _ tote serial item units remaining .li (by simp)
  | tally tote serial item remaining => exact State.heardTally_changedOnly _ tote serial item remaining .li (by simp)

theorem mutedWithin_opKeeps (queued inLane : Nat) (quiet : Prop) :
    OpKeeps (State.mutedWithin queued inLane quiet) where
  setItems _ hs := hs
  setBays _ hs := hs
  setPort _ hs := hs
  setDev _ hs := hs
  setDraws _ hs := hs
  setClock _ hs := hs
  writing _ _ hs := hs
  setMode _ _ _ hu _ hs := absurd hs.1 hu
  counted _ _ hs := hs
  marked _ hu _ _ hs := absurd hs.1 hu
  joined _ hu _ hs := absurd hs.1 hu
  emptied _ hs := by
    obtain ⟨hm, -, -, hlane⟩ := hs
    exact ⟨hm, Nat.zero_le _, fun _ => rfl, hlane⟩
  seen _ hs := hs
  laneKept _ hv hs := by
    obtain ⟨hm, hqueue, hlde, hlane⟩ := hs
    exact ⟨hm, hqueue, hlde, hv.trans hlane⟩
  laneJoined _ hm hs := by
    rcases hm with hm | hm <;> cases hm.symm.trans hs.1
  mapped _ hs := hs
  put _ hs := hs
  decoded _ _ hs := hs
  readsCounted _ _ _ hs := hs
  delivered {s p sequence payload} _ _ _ _ _ hs := by
    have hkept := s.deliver_changedOnly p sequence payload
    have hli := (State.deliver_li_of_muted p sequence payload hs.1).trans (s.rosterUpdate_li p payload.isJoin sequence)
    exact State.mutedWithin_of_same (hkept .ctl (by simp)) (by rw [hli]) (by rw [hli]) (hkept .lane (by simp)) hs

section
variable {queued inLane : Nat} {quiet : Prop} {s : State}

theorem State.lowerReset_mutedWithin (hs : s.mutedWithin queued inLane quiet) :
    s.lowerReset.mutedWithin queued inLane quiet := by
  obtain ⟨hm, hqueue, -, hlane⟩ := hs
  exact ⟨hm, hqueue, fun _ => rfl, hlane⟩

theorem State.endLoad_of_not_loading {r : Settings × LoadOutcome} (h : s.ctl.mode ≠ .loading) : s.endLoad r = s :=
  if_neg fun hn => h hn.2

/-- A MUTED station begins no attempt (R63). -/
theorem State.attempt_mutedWithin (lineIdle : Bool) (hs : s.mutedWithin queued inLane quiet) :
    (s.attempt lineIdle).mutedWithin queued inLane quiet := by
  obtain ⟨-, h⟩ | ⟨-, -, ⟨-, h⟩ | ⟨n, rest, hu, -⟩⟩ := s.attempt_cases lineIdle
  · rwa [h]
  · rw [h]; exact hs
  · exact absurd hs.1 hu

/-- The head leaves the queue and the transmitter is released (R65, R67). -/
theorem State.dropped_mutedWithin {n : Notice} {rest : List Notice} (hq : s.li.queue = n :: rest)
    (hs : s.mutedWithin queued inLane quiet) {t : State} (hctl : t.ctl = s.ctl) (hqueue : t.li.queue = rest)
    (hlde : t.li.lde = false) (hlane : t.lane = s.lane) : t.mutedWithin queued inLane quiet := by
  obtain ⟨hm, hlen, -, hl⟩ := hs
  rw [hq, List.length_cons] at hlen
  refine ⟨by rw [hctl, hm], ?_, fun _ => hlde, by rwa [hlane]⟩
  rw [hqueue]
  omega

theorem State.completeNotice_mutedWithin (hs : s.mutedWithin queued inLane quiet) :
    s.completeNotice.mutedWithin queued inLane quiet := by
  unfold State.completeNotice
  split
  · next hq => exact State.dropped_mutedWithin hq hs rfl rfl rfl rfl
  · exact hs

theorem State.collide_mutedWithin (hs : s.mutedWithin queued inLane quiet) :
    s.collide.mutedWithin queued inLane quiet := by
  unfold State.collide
  split
  · exact hs
  · exact hs
  · exact hs
  · exact hs

theorem State.endJam_mutedWithin (hs : s.mutedWithin queued inLane quiet) :
    s.endJam.mutedWithin queued inLane quiet := by
  unfold State.endJam
  split
  · next hq =>
    split
    · obtain ⟨hm, hqueue, -, hlane⟩ := hs
      exact ⟨hm, hqueue, fun _ => rfl, hlane⟩
    · exact State.dropped_mutedWithin hq hs rfl rfl rfl rfl
  · exact hs

theorem State.endBackoff_mutedWithin (hs : s.mutedWithin queued inLane quiet) :
    s.endBackoff.mutedWithin queued inLane quiet := by
  unfold State.endBackoff
  split
  · exact hs
  · exact hs
  · exact hs
  · exact hs

theorem State.takeSilence_mutedWithin (p : Nat) (hs : s.mutedWithin queued inLane quiet) :
    (s.takeSilence p).mutedWithin queued inLane quiet := by
  unfold State.takeSilence
  split
  · exact hs
  · exact hs

theorem State.takeRefresh_mutedWithin (hs : s.mutedWithin queued inLane quiet) :
    s.takeRefresh.mutedWithin queued inLane quiet := by
  unfold State.takeRefresh
  split
  · exact hs
  · split
    · rw [State.offerMarker_of_muted]
      · exact hs
      · exact hs.1
    · exact hs

end

/-- A MUTED station stays so, queueing and sending nothing, until a hard reset or a Restart (R168). -/
theorem exec_mutedWithin {queued inLane : Nat} {quiet : Prop} {c : Instr} {s t : State}
    (hreset : ∀ straps, c ≠ .hardReset straps) (hrestart : ∀ straps tx, c ≠ .restart straps tx)
    (h : exec c s = .next t) (hs : s.mutedWithin queued inLane quiet) : t.mutedWithin queued inLane quiet := by
  have hloading : s.ctl.mode ≠ .loading := by rw [hs.1]; decide
  cases c with
  | hardReset straps => exact absurd rfl (hreset straps)
  | restart straps tx => exact absurd rfl (hrestart straps tx)
  | resetLow => cases h; exact State.lowerReset_mutedWithin hs
  | settingsLoad record =>
    cases h; exact whileUp_keeps_of (by rw [State.endLoad_of_not_loading hloading]; exact hs) hs
  | settingsLoadTimeout =>
    cases h; exact whileUp_keeps_of (by rw [State.endLoad_of_not_loading hloading]; exact hs) hs
  | attempt lineIdle => cases h; exact whileUp_keeps_of (State.attempt_mutedWithin _ hs) hs
  | noticeComplete => cases h; exact whileUp_keeps_of (State.completeNotice_mutedWithin hs) hs
  | collision => cases h; exact whileUp_keeps_of (State.collide_mutedWithin hs) hs
  | jamEnd => cases h; exact whileUp_keeps_of (State.endJam_mutedWithin hs) hs
  | backoffEnd => cases h; exact whileUp_keeps_of (State.endBackoff_mutedWithin hs) hs
  | silenceExpiry peer => cases h; exact whileUp_keeps_of (State.takeSilence_mutedWithin _ hs) hs
  | refreshExpiry => cases h; exact whileUp_keeps_of (State.takeRefresh_mutedWithin hs) hs
  | _ => exact (mutedWithin_opKeeps queued inLane quiet).exec rfl h hs

/-- Settles O59. -/
theorem mutedEndsOnlyAtAStart : Obligations.MutedEndsOnlyAtAStart := fun _ _ _ hm h hreset hrestart =>
  exec_mutedWithin hreset hrestart h ⟨hm, le_rfl, id, le_rfl⟩

end Sys2Proof.Machine

/-! PROOF. The tote table (R98, R100): the entry that makes room, and what setting an entry leaves of the table. -/

namespace Sys2Proof.Machine

/-! ## The entry that makes room -/

/-- An entry stands before or beside another in the choice of R100. -/
def ToteEntry.before (x y : ToteEntry) : Prop :=
  x.touched < y.touched ∨ (x.touched = y.touched ∧ x.tote.toNat ≤ y.tote.toNat)

theorem removedFirst_before {x y : ToteEntry} (h : removedFirst x y = true) : x.before y := by
  simp only [removedFirst, Bool.or_eq_true, Bool.and_eq_true, decide_eq_true_eq, beq_iff_eq] at h
  unfold ToteEntry.before
  omega

theorem not_removedFirst_before {x y : ToteEntry} (h : removedFirst x y = false) : y.before x := by
  simp only [removedFirst, Bool.or_eq_false_iff, Bool.and_eq_false_imp, decide_eq_false_iff_not, beq_iff_eq] at h
  unfold ToteEntry.before
  omega

theorem ToteEntry.before_trans {x y z : ToteEntry} (h : x.before y) (k : y.before z) : x.before z := by
  unfold ToteEntry.before at *
  omega

theorem ToteEntry.before_refl (x : ToteEntry) : x.before x := .inr ⟨rfl, le_rfl⟩

theorem pickRemoved_eq_none_iff {l : List ToteEntry} : pickRemoved l = none ↔ l = [] := by
  cases l with
  | nil => simp [pickRemoved]
  | cons e es =>
    simp only [pickRemoved, reduceCtorEq, iff_false]
    split
    · simp
    · split <;> simp

/-- The entry picked is one of the list, and stands before every other (R100). -/
theorem pickRemoved_spec : ∀ {l : List ToteEntry} {v : ToteEntry}, pickRemoved l = some v →
    v ∈ l ∧ ∀ x ∈ l, v.before x
  | [], _, h => by cases h
  | e :: es, v, h => by
    unfold pickRemoved at h
    split at h
    · next hnone =>
      cases h
      rw [pickRemoved_eq_none_iff] at hnone
      subst hnone
      exact ⟨by simp, by simpa using e.before_refl⟩
    · next m hm =>
      obtain ⟨hmem, hfirst⟩ := pickRemoved_spec hm
      split at h
      · next hrem =>
        cases h
        refine ⟨by simp, fun x hx => ?_⟩
        rcases List.mem_cons.mp hx with rfl | hx
        · exact x.before_refl
        · exact ToteEntry.before_trans (removedFirst_before hrem) (hfirst x hx)
      · next hrem =>
        cases h
        refine ⟨List.mem_cons_of_mem _ hmem, fun x hx => ?_⟩
        rcases List.mem_cons.mp hx with rfl | hx
        · exact not_removedFirst_before (by simpa using hrem)
        · exact hfirst x hx

/-! ## Setting an entry -/

section
variable {inLane : ToteId → Bool} {table : List ToteEntry} {e : ToteEntry}

theorem putTote_held (h : ∃ x ∈ table, x.tote = e.tote) :
    putTote inLane table e = table.map fun x => if x.tote = e.tote then e else x := by
  rw [putTote, if_pos (by simpa using h)]
  simp only [beq_iff_eq]

theorem putTote_free (h : ∀ x ∈ table, x.tote ≠ e.tote) (hfree : table.length < 128) :
    putTote inLane table e = table ++ [e] := by
  rw [putTote, if_neg (by simpa using h), if_pos (show table.length < totePlaces from hfree)]

theorem putTote_full {v : ToteEntry} (h : ∀ x ∈ table, x.tote ≠ e.tote) (hfull : 128 ≤ table.length)
    (hp : pickRemoved (table.filter fun x => !inLane x.tote) = some v) :
    putTote inLane table e = (table.filter fun x => x.tote != v.tote) ++ [e] := by
  rw [putTote, if_neg (by simpa using h), if_neg (by unfold totePlaces; omega), hp]

theorem putTote_allInLane (h : ∀ x ∈ table, x.tote ≠ e.tote) (hfull : 128 ≤ table.length)
    (hp : pickRemoved (table.filter fun x => !inLane x.tote) = none) : putTote inLane table e = table := by
  rw [putTote, if_neg (by simpa using h), if_neg (by unfold totePlaces; omega), hp]

/-- All that setting an entry can do to the table (R100). -/
theorem putTote_cases :
    ((∃ x ∈ table, x.tote = e.tote) ∧ putTote inLane table e = table.map fun x => if x.tote = e.tote then e else x)
      ∨ (∀ x ∈ table, x.tote ≠ e.tote)
        ∧ ((table.length < 128 ∧ putTote inLane table e = table ++ [e])
          ∨ putTote inLane table e = table
          ∨ ∃ v ∈ table, putTote inLane table e = (table.filter fun x => x.tote != v.tote) ++ [e]) := by
  by_cases h : ∃ x ∈ table, x.tote = e.tote
  · exact .inl ⟨h, putTote_held h⟩
  · push Not at h
    refine .inr ⟨h, ?_⟩
    by_cases hfree : table.length < 128
    · exact .inl ⟨hfree, putTote_free h hfree⟩
    · refine .inr ?_
      cases hp : pickRemoved (table.filter fun x => !inLane x.tote) with
      | none => exact .inl (putTote_allInLane h (by omega) hp)
      | some v =>
        obtain ⟨hmem, -⟩ := pickRemoved_spec hp
        exact .inr ⟨v, List.mem_of_mem_filter hmem, putTote_full h (by omega) hp⟩

end

/-- Settles O34: the three placements of R100; the entry removed is the one `pickRemoved` finds among those whose tote is
not in the lane. -/
theorem toteTableMakesRoomByLastTouched : Obligations.ToteTableMakesRoomByLastTouched := by
  intro inLane table e
  refine ⟨putTote_held, putTote_free, fun h hfull hsome => ?_⟩
  obtain ⟨x, hx, hlane⟩ := hsome
  cases hp : pickRemoved (table.filter fun x => !inLane x.tote) with
  | none =>
    rw [pickRemoved_eq_none_iff, List.filter_eq_nil_iff] at hp
    exact absurd (hp x hx) (by simp [hlane])
  | some v =>
    obtain ⟨hmem, hfirst⟩ := pickRemoved_spec hp
    rw [List.mem_filter] at hmem
    refine ⟨v, hmem.1, by simpa using hmem.2, fun y hy hly => hfirst y (List.mem_filter.mpr ⟨hy, by simp [hly]⟩),
      putTote_full h hfull hp⟩

/-! ## The table's bounds -/

/-- The bounds of R98 on a table. -/
def tableSound (table : List ToteEntry) : Prop :=
  table.length ≤ 128 ∧ (table.map (·.tote)).Nodup ∧ ∀ e ∈ table, e.tote ≠ 0 ∧ e.item ≠ 0 ∧ e.remaining ≤ 255

theorem tableSound_put {inLane : ToteId → Bool} {table : List ToteEntry} {e : ToteEntry} (he : e.soundBy table)
    (h : tableSound table) : tableSound (putTote inLane table e) := by
  obtain ⟨hlen, hnodup, hentries⟩ := h
  have hsound := he hentries
  obtain ⟨-, hput⟩ | ⟨hnew, ⟨hfree, hput⟩ | hput | ⟨v, hv, hput⟩⟩ := putTote_cases (inLane := inLane) (table := table) (e := e)
  · rw [hput]
    have hkeys : ((table.map fun x => if x.tote = e.tote then e else x).map (·.tote)) = table.map (·.tote) := by
      rw [List.map_map]
      refine List.map_congr_left fun x _ => ?_
      by_cases hx : x.tote = e.tote
      · simp [hx]
      · simp [hx]
    refine ⟨by rwa [List.length_map], by rwa [hkeys], fun x hx => ?_⟩
    obtain ⟨y, hy, rfl⟩ := List.mem_map.mp hx
    split
    · exact hsound
    · exact hentries y hy
  · rw [hput]
    refine ⟨by rw [List.length_append, List.length_singleton]; omega, ?_, fun x hx => ?_⟩
    · rw [List.map_append, List.map_singleton, List.nodup_append]
      refine ⟨hnodup, by simp, fun a ha b hb => ?_⟩
      obtain ⟨x, hx, rfl⟩ := List.mem_map.mp ha
      rw [List.mem_singleton.mp hb]
      exact hnew x hx
    · rcases List.mem_append.mp hx with hx | hx
      · exact hentries x hx
      · rwa [List.mem_singleton.mp hx]
  · rw [hput]
    exact ⟨hlen, hnodup, hentries⟩
  · rw [hput]
    have hshorter : (table.filter fun x => x.tote != v.tote).length < table.length := by
      rw [List.length_filter_lt_length_iff_exists]
      exact ⟨v, hv, by simp⟩
    refine ⟨by rw [List.length_append, List.length_singleton]; omega, ?_, fun x hx => ?_⟩
    · rw [List.map_append, List.map_singleton, List.nodup_append]
      refine ⟨hnodup.sublist (List.filter_sublist.map _), by simp, fun a ha b hb => ?_⟩
      obtain ⟨x, hx, rfl⟩ := List.mem_map.mp ha
      rw [List.mem_singleton.mp hb]
      exact hnew x (List.mem_of_mem_filter hx)
    · rcases List.mem_append.mp hx with hx | hx
      · exact hentries x (List.mem_of_mem_filter hx)
      · rwa [List.mem_singleton.mp hx]

theorem tableSound_map {table : List ToteEntry} {f : ToteEntry → ToteEntry} (hf : keepsEntries f)
    (h : tableSound table) : tableSound (table.map f) := by
  obtain ⟨hlen, hnodup, hentries⟩ := h
  have hkeys : (table.map f).map (·.tote) = table.map (·.tote) := by
    rw [List.map_map]
    refine List.map_congr_left fun x _ => ?_
    obtain ⟨htote, -⟩ := hf x
    exact htote
  refine ⟨by rwa [List.length_map], by rwa [hkeys], fun x hx => ?_⟩
  obtain ⟨y, hy, rfl⟩ := List.mem_map.mp hx
  obtain ⟨htote, hitem, hrem⟩ := hf y
  obtain ⟨ht, hi, hr⟩ := hentries y hy
  exact ⟨by rwa [htote], by rwa [hitem], hrem hr⟩

theorem uncertain_keepsEntries : keepsEntries fun e => { e with uncertain := true } := fun _ => ⟨rfl, rfl, id⟩

theorem State.rosterUpdate_tableSound {s : State} (p : Nat) (isJoin : Bool) (sequence : Byte)
    (hs : tableSound s.totes.table) : tableSound (s.rosterUpdate p isJoin sequence).totes.table := by
  unfold State.rosterUpdate
  dsimp only
  split
  · exact tableSound_map uncertain_keepsEntries hs
  · exact hs

/-- An entry that a notice gives is sound (R103, R104). -/
theorem noticedEntry_soundBy {tote : ToteId} {item : ItemCode} (ht : tote ≠ 0) (hi : item ≠ 0) (serial : Serial)
    (remaining : Byte) (now : Nat) (table : List ToteEntry) :
    (noticedEntry tote serial item remaining now).soundBy table :=
  fun _ => ⟨ht, hi, Nat.le_of_lt_succ remaining.isLt⟩

theorem State.heardDraw_tableSound {s : State} (tote : ToteId) (serial : Serial) (item : ItemCode)
    (units remaining : Byte) (hs : tableSound s.totes.table) :
    tableSound (s.heardDraw tote serial item units remaining).totes.table := by
  unfold State.heardDraw
  split
  · exact hs
  · next hz =>
    obtain ⟨ht, hi⟩ := not_or.mp hz
    have hnoticed := tableSound_put (inLane := s.inLane)
      (noticedEntry_soundBy ht hi serial remaining s.clock s.totes.table) hs
    split
    · exact hnoticed
    · next e he =>
      split
      · obtain ⟨hmem, -⟩ := State.toteEntry_some he
        exact tableSound_put (ToteEntry.foundIn.drawn (.inl hmem) units.toNat s.clock) hs
      · exact hnoticed
      · exact hs

theorem State.heardTally_tableSound {s : State} (tote : ToteId) (serial : Serial) (item : ItemCode)
    (remaining : Byte) (hs : tableSound s.totes.table) :
    tableSound (s.heardTally tote serial item remaining).totes.table := by
  unfold State.heardTally
  split
  · exact hs
  · next hz =>
    obtain ⟨ht, hi⟩ := not_or.mp hz
    have hnoticed := tableSound_put (inLane := s.inLane)
      (noticedEntry_soundBy ht hi serial remaining s.clock s.totes.table) hs
    split
    · exact hnoticed
    · split
      · exact hs
      · exact hnoticed

/-- A delivered notice keeps the tote table sound (R103 to R105). -/
theorem State.deliver_tableSound {s : State} (p : Nat) (sequence : Byte) (payload : Payload)
    (hs : tableSound s.totes.table) : tableSound (s.deliver p sequence payload).totes.table := by
  have hroster := s.rosterUpdate_tableSound p payload.isJoin sequence hs
  unfold State.deliver
  cases payload with
  | join capacity bays revision =>
    have hkept : (((s.rosterUpdate p true sequence).removeHeard p).offerMarker).totes
        = (s.rosterUpdate p true sequence).totes :=
      State.offerMarker_changedOnly _ .totes (by simp)
    change tableSound (((s.rosterUpdate p true sequence).removeHeard p).offerMarker).totes.table
    rw [hkept]
    exact hroster
  | demand entries =>
    have hkept : (((s.rosterUpdate p false sequence).removeHeard p).takeEntries p entries []).totes
        = (s.rosterUpdate p false sequence).totes :=
      State.takeEntries_changedOnly p entries ((s.rosterUpdate p false sequence).removeHeard p) [] .totes (by simp)
    change tableSound (((s.rosterUpdate p false sequence).removeHeard p).takeEntries p entries []).totes.table
    rw [hkept]
    exact hroster
  | draw tote serial item units remaining => exact State.heardDraw_tableSound _ _ _ _ _ hroster
  | tally tote serial item remaining => exact State.heardTally_tableSound _ _ _ _ hroster

theorem totesSound_opKeeps : OpKeeps State.totesSound where
  setItems _ hs := hs
  setBays _ hs := hs
  setPort _ hs := hs
  setDev _ hs := hs
  setDraws _ hs := hs
  setClock _ hs := hs
  writing _ _ hs := hs
  setMode _ _ _ _ _ hs := hs
  counted _ _ hs := hs
  marked _ _ _ _ hs := hs
  joined _ _ _ hs := hs
  emptied _ hs := hs
  seen _ hs := hs
  laneKept _ _ hs := hs
  laneJoined _ _ hs := hs
  mapped hf hs := tableSound_map hf hs
  put he hs := tableSound_put he hs
  decoded _ _ hs := hs
  readsCounted _ _ _ hs := hs
  delivered _ _ _ _ _ hs := State.deliver_tableSound _ _ _ hs

end Sys2Proof.Machine

/-! PROOF. The roster and the heard-demand table (R76, R81): what a good notice leaves of them (R77, R80, R82, R84), and
the bounds of R81. -/

namespace Sys2Proof.Machine

/-! ## The roster -/

theorem rosterPlace_inj {p q : Nat} (hp : 1 ≤ p ∧ p ≤ 32) (hq : 1 ≤ q ∧ q ≤ 32) (h : rosterPlace p = rosterPlace q) :
    p = q := by
  have hval := congrArg Fin.val h
  simp only [rosterPlace, Fin.val_ofNat] at hval
  omega

theorem State.peer_eq_getElem (s : State) (p : Nat) :
    s.peer p = s.peers.roster[(rosterPlace p).val]'(rosterPlace p).isLt := rfl

@[simp] theorem State.setPeer_peer_same (s : State) (p : Nat) (r : PeerRecord) : (s.setPeer p r).peer p = r := by
  rw [State.peer_eq_getElem]
  exact Vector.getElem_set_self _

theorem State.setPeer_peer_of_ne (s : State) {p q : Nat} (r : PeerRecord) (hp : 1 ≤ p ∧ p ≤ 32) (hq : 1 ≤ q ∧ q ≤ 32)
    (h : q ≠ p) : (s.setPeer p r).peer q = s.peer q := by
  have hne : (rosterPlace p).val ≠ (rosterPlace q).val := fun hval => h (rosterPlace_inj hp hq (Fin.ext hval)).symm
  exact Vector.getElem_set_ne (rosterPlace p).isLt (rosterPlace q).isLt hne

theorem State.peer_of_peers {s t : State} (h : t.peers.roster = s.peers.roster) (p : Nat) : t.peer p = s.peer p := by
  rw [State.peer_eq_getElem, State.peer_eq_getElem]
  simp only [h]

theorem State.gap_peers (s : State) : s.gap.peers = s.peers := s.gap_changedOnly .peers (by simp)

/-- The roster after a good notice (R77). -/
theorem State.rosterUpdate_peers (s : State) (p : Nat) (isJoin : Bool) (sequence : Byte) :
    (s.rosterUpdate p isJoin sequence).peers
      = { s.peers with
          roster := s.peers.roster.set (rosterPlace p) ((s.peer p).afterNotice isJoin sequence s.clock) } := by
  unfold State.rosterUpdate
  dsimp only
  split
  · simp only [State.setPeer, State.setPeers_peers, State.gap_peers]
  · rfl

theorem State.rosterUpdate_peer_same (s : State) (p : Nat) (isJoin : Bool) (sequence : Byte) :
    (s.rosterUpdate p isJoin sequence).peer p = (s.peer p).afterNotice isJoin sequence s.clock := by
  unfold State.rosterUpdate
  exact State.setPeer_peer_same _ _ _

theorem State.rosterUpdate_peer_of_ne (s : State) {p q : Nat} (isJoin : Bool) (sequence : Byte)
    (hp : 1 ≤ p ∧ p ≤ 32) (hq : 1 ≤ q ∧ q ≤ 32) (h : q ≠ p) :
    (s.rosterUpdate p isJoin sequence).peer q = s.peer q := by
  unfold State.rosterUpdate
  dsimp only
  rw [State.setPeer_peer_of_ne _ _ hp hq h]
  split
  · exact State.peer_of_peers (by rw [State.gap_peers]) q
  · rfl

/-! ## The lowest-ranked entry -/

theorem lowestHeard_eq_none_iff {l : List HeardEntry} : lowestHeard l = none ↔ l = [] := by
  cases l with
  | nil => simp [lowestHeard]
  | cons e es =>
    simp only [lowestHeard, reduceCtorEq, iff_false]
    split
    · simp
    · split <;> simp

theorem lowestHeard_mem : ∀ {l : List HeardEntry} {m : HeardEntry}, lowestHeard l = some m → m ∈ l
  | [], _, h => by cases h
  | e :: es, m, h => by
    unfold lowestHeard at h
    split at h
    · cases h; simp
    · next x hx =>
      split at h
      · cases h; simp
      · cases h; exact List.mem_cons_of_mem _ (lowestHeard_mem hx)

/-! ## The heard-demand table -/

/-- The key that no two heard entries share (R81). -/
def HeardEntry.place (h : HeardEntry) : Nat × BitVec 4 × BitVec 4 := (h.peer, h.entry.bay, h.entry.line)

/-- The bounds of R81 on a table, with `present` the peers that may have entries. -/
structure heardBounded (present : Nat → Prop) (table : List HeardEntry) : Prop where
  length : table.length ≤ 256
  peers : ∀ h ∈ table, present h.peer
  each : ∀ p, (table.filter fun h => h.peer == p).length ≤ 16
  nodup : (table.map HeardEntry.place).Nodup

theorem heardBounded_sublist {present : Nat → Prop} {table table' : List HeardEntry} (h : table'.Sublist table)
    (hb : heardBounded present table) : heardBounded present table' :=
  ⟨h.length_le.trans hb.length, fun x hx => hb.peers x (h.mem hx), fun p => (h.filter _).length_le.trans (hb.each p),
    hb.nodup.sublist (h.map _)⟩

theorem heardBounded_mono {present present' : Nat → Prop} {table : List HeardEntry} (hb : heardBounded present table)
    (h : ∀ e ∈ table, present e.peer → present' e.peer) : heardBounded present' table :=
  ⟨hb.length, fun x hx => h x hx (hb.peers x hx), hb.each, hb.nodup⟩

/-- An entry whose place is new and whose peer has fewer than 16 entries joins a table that has a place for it. -/
theorem heardBounded_append {present : Nat → Prop} {table : List HeardEntry} {h : HeardEntry}
    (hb : heardBounded present table) (hlen : table.length < 256) (hp : present h.peer)
    (heach : (table.filter fun x => x.peer == h.peer).length < 16) (hnew : ∀ x ∈ table, x.place ≠ h.place) :
    heardBounded present (table ++ [h]) := by
  refine ⟨by simpa using hlen, fun x hx => ?_, fun p => ?_, ?_⟩
  · rcases List.mem_append.mp hx with hx | hx
    · exact hb.peers x hx
    · rwa [List.mem_singleton.mp hx]
  · rw [List.filter_append, List.length_append]
    by_cases hpeer : h.peer = p
    · subst hpeer
      simpa using heach
    · simpa [hpeer] using hb.each p
  · rw [List.map_append, List.map_singleton, List.nodup_append]
    refine ⟨hb.nodup, by simp, fun a ha b hb' => ?_⟩
    obtain ⟨x, hx, rfl⟩ := List.mem_map.mp ha
    rw [List.mem_singleton.mp hb']
    exact hnew x hx

/-- What stands of the table while a DEMAND's entries are taken from it (R82): the bounds, room for the `left` entries to
come, and the peer's places among those `taken`. -/
structure takingFrom (present : Nat → Prop) (p left : Nat) (taken : List (BitVec 4 × BitVec 4))
    (table : List HeardEntry) : Prop where
  bounded : heardBounded present table
  room : (table.filter fun h => h.peer == p).length + left ≤ 16
  places : ∀ h ∈ table, h.peer = p → (h.entry.bay, h.entry.line) ∈ taken

theorem takingFrom.skip {present : Nat → Prop} {p left : Nat} {taken : List (BitVec 4 × BitVec 4)}
    {table : List HeardEntry} (h : takingFrom present p (left + 1) taken table) : takingFrom present p left taken table :=
  ⟨h.bounded, (Nat.add_le_add_left (Nat.le_succ left) _).trans h.room, h.places⟩

/-- An entry joins a table that some entries were first taken out of. -/
theorem takingFrom.insert {present : Nat → Prop} {p left : Nat} {taken : List (BitVec 4 × BitVec 4)}
    {table table' : List HeardEntry} {e : DemandEntry} {now : Nat} (h : takingFrom present p (left + 1) taken table)
    (hsub : table'.Sublist table) (hlen : table'.length < 256) (hp : present p) (hnew : (e.bay, e.line) ∉ taken) :
    takingFrom present p left ((e.bay, e.line) :: taken)
      (table' ++ [{ peer := p, entry := e, timeHeard := now }]) := by
  have hroom := h.room
  have hfilter : (table'.filter fun x => x.peer == p).length ≤ (table.filter fun x => x.peer == p).length :=
    (hsub.filter _).length_le
  refine ⟨heardBounded_append (heardBounded_sublist hsub h.bounded) hlen hp (by dsimp only; omega) fun x hx hplace => ?_,
    ?_, fun x hx hpeer => ?_⟩
  · simp only [HeardEntry.place, Prod.mk.injEq] at hplace
    obtain ⟨hpeer, hbay, hline⟩ := hplace
    have := h.places x (hsub.mem hx) hpeer
    rw [hbay, hline] at this
    exact hnew this
  · rw [List.filter_append, List.length_append]
    simp only [beq_self_eq_true, List.filter_cons_of_pos, List.filter_nil, List.length_singleton]
    omega
  · rcases List.mem_append.mp hx with hx | hx
    · exact List.mem_cons_of_mem _ (h.places x (hsub.mem hx) hpeer)
    · rw [List.mem_singleton.mp hx]
      exact List.mem_cons_self

/-- One entry inserted or discarded (R84). -/
theorem State.insertHeard_takingFrom {present : Nat → Prop} {p left : Nat} {taken : List (BitVec 4 × BitVec 4)}
    {s : State} {e : DemandEntry} (h : takingFrom present p (left + 1) taken s.peers.heard) (hp : present p)
    (hnew : (e.bay, e.line) ∉ taken) :
    takingFrom present p left ((e.bay, e.line) :: taken)
      (s.insertHeard { peer := p, entry := e, timeHeard := s.clock }).peers.heard := by
  have hdiscard : takingFrom present p left ((e.bay, e.line) :: taken) s.peers.heard := by
    obtain ⟨hb, hr, hpl⟩ := h.skip
    exact ⟨hb, hr, fun x hx hpeer => List.mem_cons_of_mem _ (hpl x hx hpeer)⟩
  unfold State.insertHeard
  split
  · next hfree => exact h.insert (List.Sublist.refl _) hfree hp hnew
  · split
    · exact hdiscard
    · next m hm =>
      split
      · have hmem := lowestHeard_mem hm
        have hlen : (s.peers.heard.erase m).length < 256 := by
          have hmax := h.bounded.length
          have herase := List.length_erase_of_mem hmem
          have hpos := List.length_pos_of_mem hmem
          omega
        exact h.insert List.erase_sublist hlen hp hnew
      · exact hdiscard

theorem State.takeEntries_bounded {present : Nat → Prop} {p : Nat} (hp : present p) :
    ∀ (entries : List DemandEntry) (s : State) (taken : List (BitVec 4 × BitVec 4)),
      takingFrom present p entries.length taken s.peers.heard →
      heardBounded present (s.takeEntries p entries taken).peers.heard
  | [], _, _, h => h.bounded
  | e :: es, s, taken, h => by
    unfold State.takeEntries
    split
    · exact State.takeEntries_bounded hp es s taken h.skip
    · next hskip =>
      rw [not_or, not_or, List.contains_iff_mem] at hskip
      obtain ⟨-, -, hnew⟩ := hskip
      exact State.takeEntries_bounded hp es _ _ (State.insertHeard_takingFrom h hp hnew)

theorem State.insertHeard_roster (s : State) (h : HeardEntry) : (s.insertHeard h).peers.roster = s.peers.roster := by
  unfold State.insertHeard
  split
  · rfl
  · split
    · rfl
    · split
      · rfl
      · rfl

theorem State.takeEntries_roster (p : Nat) : ∀ (entries : List DemandEntry) (s : State)
    (taken : List (BitVec 4 × BitVec 4)), (s.takeEntries p entries taken).peers.roster = s.peers.roster
  | [], _, _ => rfl
  | e :: es, s, taken => by
    unfold State.takeEntries
    split
    · exact State.takeEntries_roster p es s taken
    · exact (State.takeEntries_roster p es _ _).trans (s.insertHeard_roster _)

/-! ## The invariant -/

/-- The peers that may have heard entries (R81). -/
def State.hearsFrom (s : State) (p : Nat) : Prop :=
  1 ≤ p ∧ p ≤ 32 ∧ p ≠ s.ctl.station ∧ (s.peer p).state = .present

theorem State.heardSound_iff {s : State} : s.heardSound ↔ heardBounded s.hearsFrom s.peers.heard := by
  constructor
  · rintro ⟨hlen, hpeers, heach, hnodup⟩
    exact ⟨hlen, hpeers, heach, hnodup⟩
  · rintro ⟨hlen, hpeers, heach, hnodup⟩
    exact ⟨hlen, hpeers, heach, hnodup⟩

theorem State.heardSound_of_same {s t : State} (hstation : t.ctl.station = s.ctl.station)
    (hroster : t.peers.roster = s.peers.roster) (hheard : t.peers.heard = s.peers.heard) (hs : s.heardSound) :
    t.heardSound := by
  rw [State.heardSound_iff] at hs ⊢
  rw [hheard]
  refine heardBounded_mono hs fun e _ he => ?_
  rwa [State.hearsFrom, hstation, State.peer_of_peers hroster]

section
variable {s : State} {p : Nat} {isJoin : Bool} {sequence : Byte}

/-- After the roster update the sender may have entries, and those that could before still can (R77). -/
theorem State.rosterUpdate_hearsFrom (hp : 1 ≤ p ∧ p ≤ 32) (hown : p ≠ s.ctl.station) :
    (s.rosterUpdate p isJoin sequence).hearsFrom p
      ∧ ∀ q, s.hearsFrom q → (s.rosterUpdate p isJoin sequence).hearsFrom q := by
  have hctl : (s.rosterUpdate p isJoin sequence).ctl = s.ctl :=
    s.rosterUpdate_changedOnly p isJoin sequence .ctl (by simp)
  have hsame : (s.rosterUpdate p isJoin sequence).hearsFrom p := by
    refine ⟨hp.1, hp.2, by rwa [hctl], ?_⟩
    rw [State.rosterUpdate_peer_same]
    rfl
  refine ⟨hsame, fun q hq => ?_⟩
  by_cases h : q = p
  · rwa [h]
  · obtain ⟨hlo, hhi, hne, hstate⟩ := hq
    refine ⟨hlo, hhi, by rwa [hctl], ?_⟩
    rwa [State.rosterUpdate_peer_of_ne s isJoin sequence hp ⟨hlo, hhi⟩ h]

/-- The roster update leaves the heard entries and keeps them sound. -/
theorem State.rosterUpdate_bounded (hp : 1 ≤ p ∧ p ≤ 32) (hown : p ≠ s.ctl.station)
    (hs : heardBounded s.hearsFrom s.peers.heard) :
    heardBounded (s.rosterUpdate p isJoin sequence).hearsFrom (s.rosterUpdate p isJoin sequence).peers.heard := by
  rw [State.rosterUpdate_peers]
  exact heardBounded_mono hs fun e _ => (State.rosterUpdate_hearsFrom hp hown).2 e.peer

theorem State.deliver_heardSound {payload : Payload} (hp : 1 ≤ p ∧ p ≤ 32) (hown : p ≠ s.ctl.station)
    (hform : payload.wellFormed = true) (hs : s.heardSound) : (s.deliver p sequence payload).heardSound := by
  rw [State.heardSound_iff] at hs
  have hroster (isJoin : Bool) := State.rosterUpdate_bounded (isJoin := isJoin) (sequence := sequence) hp hown hs
  cases payload with
  | join capacity bays revision =>
    have hkept := State.offerMarker_changedOnly ((s.rosterUpdate p true sequence).removeHeard p)
    have hpeers := hkept .peers (by simp)
    have hctl := hkept .ctl (by simp)
    refine State.heardSound_of_same (congrArg ModeControl.station hctl) (congrArg PeerTracker.roster hpeers)
      (congrArg PeerTracker.heard hpeers) ?_
    rw [State.heardSound_iff]
    exact heardBounded_sublist List.filter_sublist (hroster true)
  | demand entries =>
    have hstart : takingFrom (s.rosterUpdate p false sequence).hearsFrom p entries.length []
        ((s.rosterUpdate p false sequence).removeHeard p).peers.heard := by
      refine ⟨heardBounded_sublist List.filter_sublist (hroster false), ?_, fun x hx hpeer => ?_⟩
      · have hnone : (((s.rosterUpdate p false sequence).removeHeard p).peers.heard.filter fun h => h.peer == p) = [] := by
          simp [State.removeHeard, State.setHeard, List.filter_eq_nil_iff]
        have hsixteen : entries.length ≤ 16 := of_decide_eq_true hform
        rw [hnone]
        simpa using hsixteen
      · have hx' := List.of_mem_filter hx
        simp [hpeer] at hx'
    have hbounded := State.takeEntries_bounded (State.rosterUpdate_hearsFrom hp hown).1 entries _ _ hstart
    have hctl : (((s.rosterUpdate p false sequence).removeHeard p).takeEntries p entries []).ctl
        = (s.rosterUpdate p false sequence).ctl := State.takeEntries_changedOnly p entries _ [] .ctl (by simp)
    have hrost := State.takeEntries_roster p entries ((s.rosterUpdate p false sequence).removeHeard p) []
    rw [State.heardSound_iff]
    refine heardBounded_mono hbounded fun e _ he => ?_
    change State.hearsFrom (((s.rosterUpdate p false sequence).removeHeard p).takeEntries p entries []) e.peer
    rwa [State.hearsFrom, hctl, State.peer_of_peers (s := s.rosterUpdate p false sequence) hrost]
  | draw tote serial item units remaining =>
    have hkept := State.heardDraw_changedOnly (s.rosterUpdate p false sequence) tote serial item units remaining
    have hpeers := hkept .peers (by simp)
    have hctl := hkept .ctl (by simp)
    exact State.heardSound_of_same (congrArg ModeControl.station hctl) (congrArg PeerTracker.roster hpeers)
      (congrArg PeerTracker.heard hpeers) (State.heardSound_iff.mpr (hroster false))
  | tally tote serial item remaining =>
    have hkept := State.heardTally_changedOnly (s.rosterUpdate p false sequence) tote serial item remaining
    have hpeers := hkept .peers (by simp)
    have hctl := hkept .ctl (by simp)
    exact State.heardSound_of_same (congrArg ModeControl.station hctl) (congrArg PeerTracker.roster hpeers)
      (congrArg PeerTracker.heard hpeers) (State.heardSound_iff.mpr (hroster false))

end

theorem heardSound_opKeeps : OpKeeps State.heardSound where
  setItems _ hs := hs
  setBays _ hs := hs
  setPort _ hs := hs
  setDev _ hs := hs
  setDraws _ hs := hs
  setClock _ hs := hs
  writing _ _ hs := hs
  setMode _ _ _ _ _ hs := hs
  counted _ _ hs := hs
  marked _ _ _ _ hs := hs
  joined _ _ _ hs := hs
  emptied _ hs := hs
  seen _ hs := hs
  laneKept _ _ hs := hs
  laneJoined _ _ hs := hs
  mapped _ hs := hs
  put _ hs := hs
  decoded _ _ hs := hs
  readsCounted _ _ _ hs := hs
  delivered _ hlo hhi hown hform hs := State.deliver_heardSound ⟨hlo, hhi⟩ hown hform hs

/-- A silent peer has no heard entries left (R79). -/
theorem State.takeSilence_heardSound {s : State} (p : Nat) (hs : s.heardSound) : (s.takeSilence p).heardSound := by
  unfold State.takeSilence
  split
  · next hdue =>
    have hrange : 1 ≤ p ∧ p ≤ 32 := by
      simp only [State.silenceIsDue, Bool.and_eq_true, decide_eq_true_eq] at hdue
      obtain ⟨⟨⟨hlo, hhi⟩, -⟩, -⟩ := hdue
      exact ⟨hlo, hhi⟩
    rw [State.heardSound_iff] at hs ⊢
    refine heardBounded_mono (heardBounded_sublist List.filter_sublist hs) fun e he hfrom => ?_
    obtain ⟨hlo, hhi, hne, hstate⟩ := hfrom
    have hother : e.peer ≠ p := by
      have := List.of_mem_filter he
      simpa using this
    refine ⟨hlo, hhi, hne, ?_⟩
    have hpeer : ((s.setPeer p { s.peer p with state := .silent }).removeHeard p).peer e.peer = s.peer e.peer :=
      s.setPeer_peer_of_ne _ hrange ⟨hlo, hhi⟩ hother
    rwa [hpeer]
  · exact hs

end Sys2Proof.Machine

/-! PROOF. The checks of Open Build (R14), each as the statements write it, and the projection of a build that has just
been opened (R15, R17). -/

namespace Sys2Proof.Machine

/-! ## Line entries -/

/-- Check 4 of R14 on one line entry, written out. -/
def LineParams.formed (e : LineParams) : Prop :=
  1 ≤ e.ordered ∧ e.ordered ≤ 24 ∧ e.substituteCount ≤ 3 ∧ e.primary ≠ 0 ∧ (∀ c ∈ e.substitutes, c ≠ 0)
    ∧ e.primary ∉ e.substitutes ∧ e.substitutes.Nodup

theorem LineParams.wellFormed_iff {e : LineParams} : e.wellFormed = true ↔ e.formed := by
  have hzero : (¬ (0 : ItemCode) ∈ e.substitutes) ↔ ∀ c ∈ e.substitutes, c ≠ 0 :=
    ⟨fun h c hc hz => h (hz ▸ hc), fun h hz => h 0 hz rfl⟩
  simp only [LineParams.wellFormed, Bool.and_eq_true, decide_eq_true_eq, bne_iff_ne, Bool.not_eq_true',
    ← Bool.not_eq_true, List.contains_iff_mem, and_assoc, LineParams.formed, hzero]

/-- Check 4 of R14 on parameters whose ceiling fits its place in the block. -/
theorem BuildParams.wellFormed_iff {p : BuildParams} (h : p.ceiling ≤ 65535) :
    p.wellFormed = true ↔ 1 ≤ p.lines.length ∧ p.lines.length ≤ 12 ∧ 1 ≤ p.ceiling ∧ ∀ e ∈ p.lines, e.formed := by
  simp only [BuildParams.wellFormed, Bool.and_eq_true, decide_eq_true_eq, List.all_eq_true, LineParams.wellFormed_iff,
    and_assoc, h, true_and]

theorem BuildParams.wellFormed_lines {p : BuildParams} (h : p.wellFormed = true) :
    1 ≤ p.lines.length ∧ p.lines.length ≤ 12 := by
  simp only [BuildParams.wellFormed, Bool.and_eq_true, decide_eq_true_eq, and_assoc] at h
  exact ⟨h.1, h.2.1⟩

/-! ## The projection of an opened build -/

@[simp] theorem LineParams.line_activeItem (e : LineParams) : e.line.activeItem = e.primary := rfl

@[simp] theorem LineParams.line_remaining (e : LineParams) : e.line.remaining = e.ordered := rfl

theorem LineParams.line_valueTerm (items : List ItemRecord) (e : LineParams) :
    e.line.valueTerm items = e.ordered * unitValue items e.primary := Nat.zero_add _

theorem LineParams.line_weightTerm (items : List ItemRecord) (e : LineParams) :
    e.line.weightTerm items = e.ordered * unitWeight items e.primary := Nat.zero_add _

theorem projectedValue_records (items : List ItemRecord) (p : BuildParams) :
    projectedValue items p.records = (p.lines.map fun e => e.ordered * unitValue items e.primary).sum := by
  simp only [projectedValue, BuildParams.records, List.map_map, Function.comp_def, LineParams.line_valueTerm]

theorem projectedWeight_records (items : List ItemRecord) (p : BuildParams) :
    projectedWeight items p.records = (p.lines.map fun e => e.ordered * unitWeight items e.primary).sum := by
  simp only [projectedWeight, BuildParams.records, List.map_map, Function.comp_def, LineParams.line_weightTerm]

/-! ## The checks -/

section
variable {s : State} {p : BuildParams}

/-- Every item that a line entry names is in the table (R14, check 5). -/
theorem State.codesKnown_iff :
    p.lines.all (fun l => l.codes.all fun c => (findItem s.items c).isSome) = true
      ↔ ∀ e ∈ p.lines, ∀ c ∈ e.primary :: e.substitutes, (findItem s.items c).isSome = true := by
  simp only [List.all_eq_true, LineParams.codes]

/-- Primary and substitutes of a line entry are of one chill class (R14, check 6). -/
theorem State.sameChill_iff :
    p.lines.all (fun l => l.substitutes.all fun c => isChilled s.items c == isChilled s.items l.primary) = true
      ↔ ∀ e ∈ p.lines, ∀ c ∈ e.substitutes, isChilled s.items c = isChilled s.items e.primary := by
  simp only [List.all_eq_true, beq_iff_eq]

/-- The promise can be kept as the build is opened (R14, check 8). -/
theorem State.feasible_iff :
    ¬ (projectedValue s.items p.records < p.floor ∨ p.ceiling < projectedWeight s.items p.records)
      ↔ p.floor ≤ (p.lines.map fun e => e.ordered * unitValue s.items e.primary).sum
        ∧ (p.lines.map fun e => e.ordered * unitWeight s.items e.primary).sum ≤ p.ceiling := by
  rw [not_or, Nat.not_lt, Nat.not_lt, projectedValue_records, projectedWeight_records]

/-- Every item code the parameters name has a record (R14, check 5). -/
def State.knowsCodes (s : State) (p : BuildParams) : Prop :=
  ∀ e ∈ p.lines, ∀ c ∈ e.primary :: e.substitutes, (findItem s.items c).isSome = true

/-- Every substitute has its primary's chill class (R14, check 6). -/
def State.chillAgrees (s : State) (p : BuildParams) : Prop :=
  ∀ e ∈ p.lines, ∀ c ∈ e.substitutes, isChilled s.items c = isChilled s.items e.primary

theorem State.checkBuild_closing (hm : s.ctl.mode = .closing) : s.checkBuild p = some .mode := if_pos hm

section
variable (hm : s.ctl.mode ≠ .closing)
include hm

theorem State.checkBuild_illFormed (hf : p.wellFormed = false) : s.checkBuild p = some .badArg := by
  rw [State.checkBuild, if_neg hm, if_pos hf]

variable (hf : p.wellFormed = true)
include hf

theorem State.checkBuild_unknown (hk : ¬ s.knowsCodes p) : s.checkBuild p = some .unknownItem := by
  rw [State.knowsCodes, ← State.codesKnown_iff, Bool.not_eq_true] at hk
  rw [State.checkBuild, if_neg hm, if_neg (by simp [hf]), if_pos hk]

variable (hk : s.knowsCodes p)
include hk

theorem State.checkBuild_chillDiffers (hc : ¬ s.chillAgrees p) : s.checkBuild p = some .badArg := by
  rw [State.knowsCodes, ← State.codesKnown_iff] at hk
  rw [State.chillAgrees, ← State.sameChill_iff, Bool.not_eq_true] at hc
  rw [State.checkBuild, if_neg hm, if_neg (by simp [hf]), if_neg (by simp [hk]), if_pos hc]

variable (hc : s.chillAgrees p)
include hc

theorem State.checkBuild_poolFull (hp : s.poolFree < p.lines.length) : s.checkBuild p = some .poolFull := by
  rw [State.knowsCodes, ← State.codesKnown_iff] at hk
  rw [State.chillAgrees, ← State.sameChill_iff] at hc
  rw [State.checkBuild, if_neg hm, if_neg (by simp [hf]), if_neg (by simp [hk]), if_neg (by simp [hc]), if_pos hp]

theorem State.checkBuild_last (hp : p.lines.length ≤ s.poolFree) : s.checkBuild p =
    if projectedValue s.items p.records < p.floor ∨ p.ceiling < projectedWeight s.items p.records then
      some .infeasible
    else none := by
  rw [State.knowsCodes, ← State.codesKnown_iff] at hk
  rw [State.chillAgrees, ← State.sameChill_iff] at hc
  rw [State.checkBuild, if_neg hm, if_neg (by simp [hf]), if_neg (by simp [hk]), if_neg (by simp [hc]),
    if_neg (by omega)]

end

/-- What an Open Build that passes every check from the third on has (R14). -/
structure State.passes (s : State) (p : BuildParams) : Prop where
  mode : s.ctl.mode ≠ .closing
  formed : p.wellFormed = true
  known : s.knowsCodes p
  chill : s.chillAgrees p
  pool : p.lines.length ≤ s.poolFree
  floor : p.floor ≤ projectedValue s.items p.records
  ceiling : projectedWeight s.items p.records ≤ p.ceiling

theorem State.checkBuild_eq_none_iff : s.checkBuild p = none ↔ s.passes p := by
  constructor
  · intro h
    by_cases hm : s.ctl.mode = .closing
    · rw [State.checkBuild_closing hm] at h; cases h
    cases hf : p.wellFormed with
    | false => rw [State.checkBuild_illFormed hm hf] at h; cases h
    | true =>
      by_cases hk : s.knowsCodes p
      · by_cases hc : s.chillAgrees p
        · by_cases hp : s.poolFree < p.lines.length
          · rw [State.checkBuild_poolFull hm hf hk hc hp] at h; cases h
          · rw [Nat.not_lt] at hp
            rw [State.checkBuild_last hm hf hk hc hp] at h
            split at h
            · cases h
            · next hlast =>
              rw [not_or, Nat.not_lt, Nat.not_lt] at hlast
              exact ⟨hm, hf, hk, hc, hp, hlast.1, hlast.2⟩
        · rw [State.checkBuild_chillDiffers hm hf hk hc] at h; cases h
      · rw [State.checkBuild_unknown hm hf hk] at h; cases h
  · rintro ⟨hm, hf, hk, hc, hp, hfloor, hceiling⟩
    rw [State.checkBuild_last hm hf hk hc hp, if_neg (by omega)]

end

end Sys2Proof.Machine

/-! PROOF. The item table, the line pool, the lines' items and the reader port decoder (R1, R2, R6, R7, R95): what each
update leaves of them, and the tables that every step keeps sound. -/

namespace Sys2Proof.Machine

/-! ## The item table -/

section
variable {s : State} {r : RawItem}

/-- What a record that passes the checks of R3 has. -/
theorem State.checkItem_none (h : s.checkItem r = none) :
    r.code ≠ 0 ∧ 1 ≤ r.weight ∧ r.weight ≤ 9999
      ∧ (∀ x, findItem s.items r.code = some x → s.itemInUse r.code = false)
      ∧ (findItem s.items r.code = none → s.items.length < 256) := by
  unfold State.checkItem at h
  split at h
  · cases h
  · next hrange =>
    simp only [not_or, Nat.not_lt] at hrange
    obtain ⟨hcode, hlo, hhi, -⟩ := hrange
    refine ⟨hcode, hlo, hhi, fun x hx => ?_, fun hnone => ?_⟩
    · rw [hx] at h
      by_contra huse
      simp [huse] at h
    · rw [hnone] at h
      by_contra hfull
      have hmax : itemPlaces ≤ s.items.length := Nat.not_lt.mp hfull
      simp [hmax] at h

end

theorem findItem_some {items : List ItemRecord} {code : ItemCode} {r : ItemRecord} (h : findItem items code = some r) :
    r ∈ items ∧ r.code = code :=
  ⟨List.mem_of_find?_eq_some h, by simpa using List.find?_some h⟩

theorem takeRecord_held {items : List ItemRecord} {r : ItemRecord} (h : (findItem items r.code).isSome = true) :
    takeRecord items r = items.map fun x => if x.code == r.code then r else x := if_pos h

theorem takeRecord_new {items : List ItemRecord} {r : ItemRecord} (h : findItem items r.code = none) :
    takeRecord items r = items ++ [r] := if_neg (by simp [h])

/-- The record of another code stays as a record is taken (R3). -/
theorem findItem_takeRecord {items : List ItemRecord} {r : ItemRecord} {code : ItemCode} (h : code ≠ r.code) :
    findItem (takeRecord items r) code = findItem items code := by
  cases hr : findItem items r.code with
  | none =>
    rw [takeRecord_new hr, findItem, List.find?_append]
    simp [findItem, h.symm]
  | some x =>
    rw [takeRecord_held (by simp [hr]), findItem, List.find?_map]
    have hsame : ((fun x : ItemRecord => x.code == code) ∘ fun x => if x.code == r.code then r else x)
        = fun x => x.code == code := by
      funext x
      by_cases hx : x.code = r.code
      · simp [hx]
      · simp [hx]
    rw [hsame]
    change (findItem items code).map _ = findItem items code
    cases hc : findItem items code with
    | none => rfl
    | some y =>
      obtain ⟨-, hy⟩ := findItem_some hc
      simp [hy, h]

/-- The record of another code stays as one is removed (R5). -/
theorem findItem_removed {items : List ItemRecord} {code removed : ItemCode} (h : code ≠ removed) :
    findItem (items.filter fun r => r.code != removed) code = findItem items code := by
  rw [findItem, List.find?_filter, findItem]
  congr 1
  funext x
  by_cases hx : x.code = code
  · simp [hx, h]
  · simp [hx]

/-- The record of an item in use stays (R2). -/
theorem State.itemsUpdate.keepsUsed {s : State} {v : List ItemRecord} (h : s.itemsUpdate v) {code : ItemCode}
    {x : ItemRecord} (huse : s.itemInUse code = true) (hx : findItem s.items code = some x) :
    findItem v code = some x := by
  cases h with
  | taken r hr hv =>
    obtain ⟨-, -, -, hfree, -⟩ := State.checkItem_none hr
    have hne : code ≠ r.code := by
      rintro rfl
      rw [hfree x hx] at huse
      cases huse
    rwa [findItem_takeRecord (r := r.record) hne]
  | removed c hc =>
    have hne : code ≠ c := by
      rintro rfl
      rw [hc] at huse
      cases huse
    rwa [findItem_removed hne]

/-- The bounds of R1 on a table. -/
def itemTableSound (items : List ItemRecord) : Prop :=
  items.length ≤ 256 ∧ (items.map (·.code)).Nodup
    ∧ ∀ r ∈ items, r.code ≠ 0 ∧ r.value ≤ 65535 ∧ 1 ≤ r.weight ∧ r.weight ≤ 9999

theorem State.itemsUpdate.sound {s : State} {v : List ItemRecord} (h : s.itemsUpdate v) (hs : itemTableSound s.items) :
    itemTableSound v := by
  obtain ⟨hlen, hnodup, hrecords⟩ := hs
  cases h with
  | removed c hc =>
    exact ⟨List.filter_sublist.length_le.trans hlen, hnodup.sublist (List.filter_sublist.map _),
      fun r hr => hrecords r (List.mem_of_mem_filter hr)⟩
  | taken r hr hv =>
    obtain ⟨hcode, hlo, hhi, -, hroom⟩ := State.checkItem_none hr
    have hrecord : r.record.code ≠ 0 ∧ r.record.value ≤ 65535 ∧ 1 ≤ r.record.weight ∧ r.record.weight ≤ 9999 :=
      ⟨hcode, hv, hlo, hhi⟩
    cases hf : findItem s.items r.code with
    | none =>
      rw [takeRecord_new (r := r.record) hf]
      refine ⟨by simpa using hroom hf, ?_, fun x hx => ?_⟩
      · rw [List.map_append, List.map_singleton, List.nodup_append]
        refine ⟨hnodup, by simp, fun a ha b hb => ?_⟩
        obtain ⟨x, hx, rfl⟩ := List.mem_map.mp ha
        rw [List.mem_singleton.mp hb]
        exact findItem_isNone_iff.mp (Option.isNone_iff_eq_none.mpr hf) x hx
      · rcases List.mem_append.mp hx with hx | hx
        · exact hrecords x hx
        · rwa [List.mem_singleton.mp hx]
    | some y =>
      rw [takeRecord_held (r := r.record) (by simp [hf, RawItem.record])]
      have hkeys : ((s.items.map fun x => if x.code == r.record.code then r.record else x).map (·.code))
          = s.items.map (·.code) := by
        rw [List.map_map]
        refine List.map_congr_left fun x _ => ?_
        by_cases hx : x.code = r.record.code
        · simp [hx]
        · simp [hx]
      refine ⟨by rwa [List.length_map], by rwa [hkeys], fun x hx => ?_⟩
      obtain ⟨z, hz, rfl⟩ := List.mem_map.mp hx
      split
      · exact hrecord
      · exact hrecords z hz

/-! ## The bays -/

section
variable {s : State}

theorem State.linesOf_of_bay {b : BayNo} {bd : Build} (h : s.bay b = some bd) : s.linesOf b = bd.lines := by
  simp [State.linesOf, h]

theorem State.linesOf_of_empty {b : BayNo} (h : s.bay b = none) : s.linesOf b = [] := by simp [State.linesOf, h]

theorem State.mem_linesOf {b : BayNo} {l : Line} : l ∈ s.linesOf b ↔ ∃ bd, s.bay b = some bd ∧ l ∈ bd.lines := by
  cases h : s.bay b with
  | none => simp [State.linesOf_of_empty h]
  | some bd => simp [State.linesOf_of_bay h]

/-- What an update of the bays does to one bay: nothing, or it changes, empties or opens it. -/
theorem State.baysUpdate.bay {v : Vector (Option Build) 8} (h : s.baysUpdate v) (c : BayNo) :
    (s.setBays v).bay c = s.bay c
      ∨ (∃ bd bd', s.bay c = some bd ∧ bd.kept bd' ∧ (s.setBays v).bay c = some bd')
      ∨ (s.setBays v).bay c = none
      ∨ ∃ p, s.bay c = none ∧ s.checkBuild p = none ∧ s.ctl.mode ≠ .loading
        ∧ (s.setBays v).bay c = some (s.newBuild p) := by
  cases h with
  | changed b bd bd' hb hk =>
    by_cases hc : c = b
    · subst hc
      exact .inr (.inl ⟨bd, bd', hb, hk, by rw [← State.setBay, State.bay_setBay, if_pos rfl]⟩)
    · exact .inl (by rw [← State.setBay, State.bay_setBay, if_neg hc])
  | emptied b =>
    by_cases hc : c = b
    · subst hc
      exact .inr (.inr (.inl (by rw [← State.setBay, State.bay_setBay, if_pos rfl])))
    · exact .inl (by rw [← State.setBay, State.bay_setBay, if_neg hc])
  | opened b p hb hp hm =>
    by_cases hc : c = b
    · subst hc
      exact .inr (.inr (.inr ⟨p, hb, hp, hm, by rw [← State.setBay, State.bay_setBay, if_pos rfl]⟩))
    · exact .inl (by rw [← State.setBay, State.bay_setBay, if_neg hc])

/-! ## The line pool -/

theorem State.linesInUse_eq_sum (s : State) : s.linesInUse = ∑ b : BayNo, (s.linesOf b).length := by
  simp only [State.linesInUse, allBays, List.map_cons, List.map_nil, List.sum_cons, List.sum_nil, Fin.sum_univ_eight]
  omega

/-- Where at most one bay takes more lines, the pool does by as many. -/
theorem State.linesInUse_le {t : State} (b : BayNo) (n : Nat)
    (h : ∀ c, (t.linesOf c).length ≤ (s.linesOf c).length + if c = b then n else 0) :
    t.linesInUse ≤ s.linesInUse + n := by
  rw [State.linesInUse_eq_sum, State.linesInUse_eq_sum]
  calc ∑ c : BayNo, (t.linesOf c).length
      ≤ ∑ c : BayNo, ((s.linesOf c).length + if c = b then n else 0) := Finset.sum_le_sum fun c _ => h c
    _ = ∑ c : BayNo, (s.linesOf c).length + n := by rw [Finset.sum_add_distrib, Finset.sum_ite_eq' Finset.univ b]; simp

/-- The records in use after an update of the bays: no more, or those of the build opened more. -/
theorem State.baysUpdate.linesInUse {v : Vector (Option Build) 8} (h : s.baysUpdate v) :
    (s.setBays v).linesInUse ≤ s.linesInUse
      ∨ ∃ p, s.checkBuild p = none ∧ (s.setBays v).linesInUse ≤ s.linesInUse + p.lines.length := by
  have hset (b c : BayNo) (x : Option Build) : (s.setBay b x).linesOf c = if c = b then (x.map (·.lines)).getD [] else
      s.linesOf c := by
    rw [State.linesOf, State.bay_setBay]
    split
    · rfl
    · rfl
  cases h with
  | changed b bd bd' hb hk =>
    refine .inl (State.linesInUse_le b 0 fun c => ?_)
    change ((s.setBay b (some bd')).linesOf c).length ≤ _
    rw [hset]
    split
    · next hc =>
      subst hc
      rw [State.linesOf_of_bay hb, hk.lines.length_eq]
      exact Nat.le_add_right _ _
    · exact Nat.le_add_right _ _
  | emptied b =>
    refine .inl (State.linesInUse_le b 0 fun c => ?_)
    change ((s.setBay b none).linesOf c).length ≤ _
    rw [hset]
    split
    · exact Nat.zero_le _
    · exact Nat.le_add_right _ _
  | opened b p hb hp hm =>
    refine .inr ⟨p, hp, State.linesInUse_le b p.lines.length fun c => ?_⟩
    change ((s.setBay b (some (s.newBuild p))).linesOf c).length ≤ _
    rw [hset]
    split
    · next hc =>
      simp [State.newBuild, BuildParams.records]
    · exact Nat.le_add_right _ _

theorem State.baysUpdate.poolSound {v : Vector (Option Build) 8} (h : s.baysUpdate v) (hs : s.poolSound) :
    (s.setBays v).poolSound := by
  obtain ⟨huse, hlines⟩ := hs
  refine ⟨?_, fun c bd hc => ?_⟩
  · obtain hle | ⟨p, hp, hle⟩ := h.linesInUse
    · exact hle.trans huse
    · have hpool := (State.checkBuild_eq_none_iff.mp hp).pool
      simp only [State.poolFree, poolSize] at hpool
      omega
  · obtain hsame | ⟨bd0, bd1, hb, hk, hset⟩ | hnone | ⟨p, -, hp, -, hset⟩ := h.bay c
    · exact hlines c bd (hsame.symm.trans hc)
    · obtain rfl := Option.some.inj (hset.symm.trans hc)
      rw [← hk.lines.length_eq]
      exact hlines c bd0 hb
    · cases hnone.symm.trans hc
    · obtain rfl := Option.some.inj (hset.symm.trans hc)
      have hformed := BuildParams.wellFormed_lines (State.checkBuild_eq_none_iff.mp hp).formed
      simpa [State.newBuild, BuildParams.records] using hformed

/-! ## The lines' items -/

/-- A line's active position is in its substitute list, and every item it names is in the table (R2, R7). -/
def Line.named (items : List ItemRecord) (l : Line) : Prop :=
  l.position ≤ l.substitutes.length ∧ ∀ c ∈ l.primary :: l.substitutes, (findItem items c).isSome = true

theorem Line.kept.named {items : List ItemRecord} {l l' : Line} (h : l.kept l') (hl : l.named items) : l'.named items := by
  obtain ⟨hpos, hitems⟩ := hl
  refine ⟨h.position hpos, ?_⟩
  rwa [h.primary, h.substitutes]

theorem forall₂_mem_right {α β : Type} {R : α → β → Prop} {xs : List α} {ys : List β} (h : List.Forall₂ R xs ys) {y : β}
    (hy : y ∈ ys) : ∃ x ∈ xs, R x y := by
  induction h with
  | nil => cases hy
  | @cons x y' xs ys hxy _ ih =>
    rcases List.mem_cons.mp hy with rfl | hy
    · exact ⟨x, List.mem_cons_self, hxy⟩
    · obtain ⟨z, hz, hr⟩ := ih hy
      exact ⟨z, List.mem_cons_of_mem _ hz, hr⟩

theorem State.baysUpdate.linesNamed {v : Vector (Option Build) 8} (h : s.baysUpdate v) (hs : s.linesNamed) :
    (s.setBays v).linesNamed := by
  intro c l hl
  obtain ⟨bd, hbd, hl⟩ := State.mem_linesOf.mp hl
  obtain hsame | ⟨bd0, bd1, hb, hk, hset⟩ | hnone | ⟨p, -, hp, -, hset⟩ := h.bay c
  · exact hs c l (State.mem_linesOf.mpr ⟨bd, hsame.symm.trans hbd, hl⟩)
  · obtain rfl := Option.some.inj (hset.symm.trans hbd)
    obtain ⟨l0, hl0, hkept⟩ := forall₂_mem_right hk.lines hl
    exact hkept.named (hs c l0 (State.mem_linesOf.mpr ⟨bd0, hb, hl0⟩))
  · cases hnone.symm.trans hbd
  · obtain rfl := Option.some.inj (hset.symm.trans hbd)
    obtain ⟨e, he, rfl⟩ := List.mem_map.mp hl
    exact ⟨Nat.zero_le _, (State.checkBuild_eq_none_iff.mp hp).known e he⟩

theorem State.linesNamed.inUse (hs : s.linesNamed) {b : BayNo} {l : Line} (hl : l ∈ s.linesOf b) {c : ItemCode}
    (hc : c ∈ l.primary :: l.substitutes) : s.itemInUse c = true ∧ (findItem s.items c).isSome = true := by
  refine ⟨State.itemInUse_iff.mpr ⟨b, l, hl, ?_⟩, (hs b l hl).2 c hc⟩
  rcases List.mem_cons.mp hc with rfl | hc
  · exact .inl rfl
  · exact .inr hc

theorem State.itemsUpdate.linesNamed {v : List ItemRecord} (h : s.itemsUpdate v) (hs : s.linesNamed) :
    (s.setItems v).linesNamed := by
  intro b l hl
  refine ⟨(hs b l hl).1, fun c hc => ?_⟩
  obtain ⟨huse, hsome⟩ := hs.inUse hl hc
  obtain ⟨x, hx⟩ := Option.isSome_iff_exists.mp hsome
  change (findItem v c).isSome = true
  rw [h.keepsUsed huse hx]
  rfl

end

/-! ## Commands -/

theorem itemsSound_opKeeps : OpKeeps State.itemsSound where
  setItems h hs := h.sound hs
  setBays _ hs := hs
  setPort _ hs := hs
  setDev _ hs := hs
  setDraws _ hs := hs
  setClock _ hs := hs
  writing _ _ hs := hs
  setMode _ _ _ _ _ hs := hs
  counted _ _ hs := hs
  marked _ _ _ _ hs := hs
  joined _ _ _ hs := hs
  emptied _ hs := hs
  seen _ hs := hs
  laneKept _ _ hs := hs
  laneJoined _ _ hs := hs
  mapped _ hs := hs
  put _ hs := hs
  decoded _ _ hs := hs
  readsCounted _ _ _ hs := hs
  delivered {s p sequence payload} _ _ _ _ _ hs := by
    rwa [State.itemsSound, show (s.deliver p sequence payload).items = s.items from
      s.deliver_changedOnly p sequence payload .items (by simp)]

theorem poolSound_of_bays {s t : State} (h : t.bays = s.bays) (hs : s.poolSound) : t.poolSound := by
  have hbay (b : BayNo) : t.bay b = s.bay b := by rw [State.bay, State.bay, h]
  have hlines (b : BayNo) : t.linesOf b = s.linesOf b := by rw [State.linesOf, State.linesOf, hbay]
  obtain ⟨huse, hbuilds⟩ := hs
  refine ⟨?_, fun b bd hb => hbuilds b bd (by rwa [← hbay])⟩
  rw [State.linesInUse_eq_sum] at huse ⊢
  simpa only [hlines] using huse

theorem poolSound_opKeeps : OpKeeps State.poolSound where
  setItems _ hs := hs
  setBays h hs := h.poolSound hs
  setPort _ hs := hs
  setDev _ hs := hs
  setDraws _ hs := hs
  setClock _ hs := hs
  writing _ _ hs := hs
  setMode _ _ _ _ _ hs := hs
  counted _ _ hs := hs
  marked _ _ _ _ hs := hs
  joined _ _ _ hs := hs
  emptied _ hs := hs
  seen _ hs := hs
  laneKept _ _ hs := hs
  laneJoined _ _ hs := hs
  mapped _ hs := hs
  put _ hs := hs
  decoded _ _ hs := hs
  readsCounted _ _ _ hs := hs
  delivered {s p sequence payload} _ _ _ _ _ hs :=
    poolSound_of_bays (s.deliver_changedOnly p sequence payload .bays (by simp)) hs

/-! ## The reader port decoder -/

theorem State.rosterUpdate_totes (s : State) (p : Nat) (isJoin : Bool) (sequence : Byte) :
    (s.rosterUpdate p isJoin sequence).totes
      = { s.totes with table := (s.rosterUpdate p isJoin sequence).totes.table } := by
  unfold State.rosterUpdate
  dsimp only
  split
  · rfl
  · rfl

theorem State.heardDraw_totes (s : State) (tote : ToteId) (serial : Serial) (item : ItemCode) (units remaining : Byte) :
    (s.heardDraw tote serial item units remaining).totes
      = { s.totes with table := (s.heardDraw tote serial item units remaining).totes.table } := by
  unfold State.heardDraw
  split
  · rfl
  · split
    · rfl
    · split
      · rfl
      · rfl
      · rfl

theorem State.heardTally_totes (s : State) (tote : ToteId) (serial : Serial) (item : ItemCode) (remaining : Byte) :
    (s.heardTally tote serial item remaining).totes
      = { s.totes with table := (s.heardTally tote serial item remaining).totes.table } := by
  unfold State.heardTally
  split
  · rfl
  · split
    · rfl
    · split
      · rfl
      · rfl

/-- A delivered notice changes of the Tote Tracker its table alone (R103 to R105). -/
theorem State.deliver_decoder (s : State) (p : Nat) (sequence : Byte) (payload : Payload) :
    (s.deliver p sequence payload).totes.decoder = s.totes.decoder := by
  have hroster (isJoin : Bool) := congrArg ToteTracker.decoder (s.rosterUpdate_totes p isJoin sequence)
  cases payload with
  | join capacity bays revision =>
    have hkept : ((s.rosterUpdate p true sequence).takeJoin p).totes = (s.rosterUpdate p true sequence).totes :=
      State.offerMarker_changedOnly _ .totes (by simp)
    exact (congrArg ToteTracker.decoder hkept).trans (hroster true)
  | demand entries =>
    have hkept : ((s.rosterUpdate p false sequence).takeDemand p entries).totes
        = (s.rosterUpdate p false sequence).totes :=
      State.takeEntries_changedOnly p entries ((s.rosterUpdate p false sequence).removeHeard p) [] .totes (by simp)
    exact (congrArg ToteTracker.decoder hkept).trans (hroster false)
  | draw tote serial item units remaining =>
    exact (congrArg ToteTracker.decoder (State.heardDraw_totes _ tote serial item units remaining)).trans (hroster false)
  | tally tote serial item remaining =>
    exact (congrArg ToteTracker.decoder (State.heardTally_totes _ tote serial item remaining)).trans (hroster false)

theorem readerSound_opKeeps : OpKeeps State.readerSound where
  setItems _ hs := hs
  setBays _ hs := hs
  setPort _ hs := hs
  setDev _ hs := hs
  setDraws _ hs := hs
  setClock _ hs := hs
  writing _ _ hs := hs
  setMode _ _ hl _ hm hs := ⟨iff_of_false (fun h => hl (hs.1.mp h)) hm, hs.2⟩
  counted _ _ hs := hs
  marked _ _ _ _ hs := hs
  joined _ _ _ hs := hs
  emptied _ hs := hs
  seen _ hs := hs
  laneKept _ _ hs := hs
  laneJoined _ _ hs := hs
  mapped _ hs := hs
  put _ hs := hs
  decoded hd hstart hs := ⟨iff_of_false hstart.1 fun h => hd (hs.1.mpr h), hstart.2⟩
  readsCounted _ _ _ hs := hs
  delivered {s p sequence payload} _ _ _ _ _ hs := by
    have hctl : (s.deliver p sequence payload).ctl = s.ctl :=
      s.deliver_changedOnly p sequence payload .ctl (by simp)
    rwa [State.readerSound, hctl, s.deliver_decoder p sequence payload]

end Sys2Proof.Machine

/-! PROOF. The tables that every step keeps sound (R1, R6, R81, R95, R98), the settings (R160 to R163), the items in use
(R2), and that a reset meets every invariant. -/

namespace Sys2Proof.Machine

/-! ## The starts -/

/-- A Restart request keeps what the port's own updates keep and a Restart sets up. -/
theorem State.restartRequest_keeps {P : State → Prop} (hport : PortKeeps P) {s : State} {straps : BitVec 5}
    (hstart : ∀ u : State, P u → P (u.restart straps)) (tx : List Byte) (hs : P s) : P (s.restartRequest straps tx) := by
  unfold State.restartRequest
  split
  · exact hport.ignored _ hs
  · split
    · exact hport.finished _ (hport.begun _ hs)
    · exact hstart _ (hport.finished _ (hport.begun _ hs))

@[simp] theorem emptyBays_getElem (b : BayNo) : emptyBays[b] = none := by
  simp [emptyBays]

theorem State.bay_of_emptyBays {s : State} (h : s.bays = emptyBays) (b : BayNo) : s.bay b = none := by
  rw [State.bay, h, emptyBays_getElem]

section
variable {s : State} (h : s.bays = emptyBays)
include h

theorem State.linesOf_of_emptyBays (b : BayNo) : s.linesOf b = [] :=
  State.linesOf_of_empty (State.bay_of_emptyBays h b)

theorem State.poolSound_of_emptyBays : s.poolSound := by
  refine ⟨?_, fun b bd hb => ?_⟩
  · rw [State.linesInUse_eq_sum]
    simp [State.linesOf_of_emptyBays h]
  · cases (State.bay_of_emptyBays h b).symm.trans hb

theorem State.linesNamed_of_emptyBays : s.linesNamed := by
  intro b l hl
  rw [State.linesOf_of_emptyBays h] at hl
  cases hl

end

theorem State.heardSound_of_cleared {s : State} (h : s.peers = PeerTracker.cleared) : s.heardSound := by
  rw [State.heardSound_iff, h]
  exact ⟨Nat.zero_le _, by simp [PeerTracker.cleared], by simp [PeerTracker.cleared], by simp [PeerTracker.cleared]⟩

theorem State.totesSound_of_cleared {s : State} (h : s.totes = ToteTracker.cleared) : s.totesSound := by
  rw [State.totesSound, h]
  exact ⟨Nat.zero_le _, by simp [ToteTracker.cleared], by simp [ToteTracker.cleared]⟩

theorem State.readerSound_of_cleared {s : State} (h : s.totes = ToteTracker.cleared) (hm : s.ctl.mode = .loading) :
    s.readerSound := by
  rw [State.readerSound, h, hm]
  exact ⟨iff_of_true rfl rfl, fun frame hf => by cases hf⟩

/-! ## The settings load -/

theorem State.endLoad_cases (s : State) (r : Settings × LoadOutcome) :
    s.endLoad r = s ∨ (s.loader.state = .loading ∧ s.ctl.mode = .loading
      ∧ s.endLoad r = (s.loadOutcome r).enterSettling) := by
  unfold State.endLoad
  split
  · next h => exact .inr ⟨h.1, h.2, rfl⟩
  · exact .inl rfl

theorem State.endLoad_readerSound {s : State} (r : Settings × LoadOutcome) (hs : s.readerSound) :
    (s.endLoad r).readerSound := by
  obtain h | ⟨-, -, h⟩ := s.endLoad_cases r
  · rwa [h]
  · rw [h]
    have hdecoder : (s.loadOutcome r).enterSettling.totes.decoder = .waiting := rfl
    have hmode : (s.loadOutcome r).enterSettling.ctl.mode = .settling := rfl
    rw [State.readerSound, hdecoder, hmode]
    exact ⟨by simp, fun frame hf => by cases hf⟩

theorem State.endLoad_heardSound {s : State} (r : Settings × LoadOutcome) (hs : s.heardSound) :
    (s.endLoad r).heardSound := by
  obtain h | ⟨-, -, h⟩ := s.endLoad_cases r
  · rwa [h]
  · rw [h]
    have hkept := s.loadOutcome_changedOnly r
    have hctl : (s.loadOutcome r).ctl = s.ctl := hkept .ctl (by simp)
    have hpeers : (s.loadOutcome r).peers = s.peers := hkept .peers (by simp)
    have hset : (s.loadOutcome r).heardSound := State.heardSound_of_same (congrArg ModeControl.station hctl)
      (congrArg PeerTracker.roster hpeers) (congrArg PeerTracker.heard hpeers) hs
    exact hset

/-! ## The tables -/

/-- A case for each start and each command of the sending side. -/
theorem startsOrSends_cases {motive : (c : Instr) → startsOrSends c = true → Prop}
    (hardReset : ∀ straps, motive (.hardReset straps) rfl) (resetLow : motive .resetLow rfl)
    (restart : ∀ straps tx, motive (.restart straps tx) rfl) (settingsLoad : ∀ record, motive (.settingsLoad record) rfl)
    (settingsLoadTimeout : motive .settingsLoadTimeout rfl) (attempt : ∀ lineIdle, motive (.attempt lineIdle) rfl)
    (noticeComplete : motive .noticeComplete rfl) (collision : motive .collision rfl) (jamEnd : motive .jamEnd rfl)
    (backoffEnd : motive .backoffEnd rfl) (silenceExpiry : ∀ peer, motive (.silenceExpiry peer) rfl)
    (refreshExpiry : motive .refreshExpiry rfl) (c : Instr) (h : startsOrSends c = true) : motive c h := by
  cases c with
  | hardReset straps => exact hardReset straps
  | resetLow => exact resetLow
  | restart straps tx => exact restart straps tx
  | settingsLoad record => exact settingsLoad record
  | settingsLoadTimeout => exact settingsLoadTimeout
  | attempt lineIdle => exact attempt lineIdle
  | noticeComplete => exact noticeComplete
  | collision => exact collision
  | jamEnd => exact jamEnd
  | backoffEnd => exact backoffEnd
  | silenceExpiry peer => exact silenceExpiry peer
  | refreshExpiry => exact refreshExpiry
  | _ => cases h

/-- What the operations keep and every start and sending command keeps, every step keeps. -/
theorem OpKeeps.stepKeeps {P : State → Prop} (hP : OpKeeps P) (hpending : ∀ s v, P s → P (s.setPending v))
    (hrest : ∀ (c : Instr) (s t : State), startsOrSends c = true → Machine.exec c s = .next t → P s → P t)
    {s t : State} (h : Machine.step s = .next t) (hs : P s) : P t :=
  step_keeps hpending (fun c s t he hp => by
    cases hc : startsOrSends c with
    | true => exact hrest c s t hc he hp
    | false => exact hP.exec hc he hp) h hs

theorem step_itemsSound {s t : State} (h : step s = .next t) (hs : s.itemsSound) : t.itemsSound := by
  refine itemsSound_opKeeps.stepKeeps (fun _ _ hs => hs) (fun c s t hc he hs => ?_) h hs
  cases c, hc using startsOrSends_cases with
  | hardReset straps =>
    cases he
    exact ⟨Nat.zero_le _, by simp [State.afterReset], by simp [State.afterReset]⟩
  | _ =>
    have hitems : t.items = s.items := exec_changedOnly he .items (by simp [fieldsWritten])
    rwa [State.itemsSound, hitems]

theorem step_poolSound {s t : State} (h : step s = .next t) (hs : s.poolSound) : t.poolSound := by
  refine poolSound_opKeeps.stepKeeps (fun _ _ hs => poolSound_of_bays rfl hs) (fun c s t hc he hs => ?_) h hs
  cases c, hc using startsOrSends_cases with
  | hardReset straps => cases he; exact State.poolSound_of_emptyBays rfl
  | restart straps tx =>
    cases he
    exact whileUp_keeps_of (State.restartRequest_keeps poolSound_opKeeps.toPort
      (fun _ _ => State.poolSound_of_emptyBays rfl) tx hs) hs
  | _ =>
    exact poolSound_of_bays (exec_changedOnly he .bays (by simp [fieldsWritten])) hs

theorem totesSound_of_table {s t : State} (h : t.totes.table = s.totes.table) (hs : s.totesSound) : t.totesSound := by
  rwa [State.totesSound, h]

theorem State.endLoad_table (s : State) (r : Settings × LoadOutcome) :
    (s.endLoad r).totes.table = s.totes.table := by
  obtain h | ⟨-, -, h⟩ := s.endLoad_cases r
  · rw [h]
  · rw [h]
    have hkept : (s.loadOutcome r).totes = s.totes := s.loadOutcome_changedOnly r .totes (by simp)
    have htable : (s.loadOutcome r).totes.table = s.totes.table := congrArg ToteTracker.table hkept
    exact htable

theorem step_totesSound {s t : State} (h : step s = .next t) (hs : s.totesSound) : t.totesSound := by
  refine totesSound_opKeeps.stepKeeps (fun _ _ hs => hs) (fun c s t hc he hs => ?_) h hs
  cases c, hc using startsOrSends_cases with
  | hardReset straps => cases he; exact State.totesSound_of_cleared rfl
  | restart straps tx =>
    cases he
    exact whileUp_keeps_of (State.restartRequest_keeps totesSound_opKeeps.toPort
      (fun _ _ => State.totesSound_of_cleared rfl) tx hs) hs
  | settingsLoad record =>
    cases he; exact whileUp_keeps_of (totesSound_of_table (s.endLoad_table _) hs) hs
  | settingsLoadTimeout =>
    cases he; exact whileUp_keeps_of (totesSound_of_table (s.endLoad_table _) hs) hs
  | _ =>
    exact totesSound_of_table (congrArg ToteTracker.table (exec_changedOnly he .totes (by simp [fieldsWritten]))) hs

theorem step_readerSound {s t : State} (h : step s = .next t) (hs : s.readerSound) : t.readerSound := by
  refine readerSound_opKeeps.stepKeeps (fun _ _ hs => hs) (fun c s t hc he hs => ?_) h hs
  cases c, hc using startsOrSends_cases with
  | hardReset straps => cases he; exact State.readerSound_of_cleared rfl rfl
  | restart straps tx =>
    cases he
    exact whileUp_keeps_of (State.restartRequest_keeps readerSound_opKeeps.toPort
      (fun _ _ => State.readerSound_of_cleared rfl rfl) tx hs) hs
  | settingsLoad record => cases he; exact whileUp_keeps_of (State.endLoad_readerSound _ hs) hs
  | settingsLoadTimeout => cases he; exact whileUp_keeps_of (State.endLoad_readerSound _ hs) hs
  | _ =>
    have hkept := exec_changedOnly he
    have htotes : t.totes = s.totes := hkept .totes (by simp [fieldsWritten])
    have hctl : t.ctl = s.ctl := hkept .ctl (by simp [fieldsWritten])
    rwa [State.readerSound, htotes, hctl]

theorem State.completeNotice_heardSound {s : State} (hs : s.heardSound) : s.completeNotice.heardSound := by
  unfold State.completeNotice
  split
  · next n rest _ _ =>
    have hsent : (s.peers.afterSent n.payload).roster = s.peers.roster
        ∧ (s.peers.afterSent n.payload).heard = s.peers.heard := by
      unfold PeerTracker.afterSent
      split
      · exact ⟨rfl, rfl⟩
      · exact ⟨rfl, rfl⟩
      · exact ⟨rfl, rfl⟩
      · exact ⟨rfl, rfl⟩
      · exact ⟨rfl, rfl⟩
    exact State.heardSound_of_same (s := s) rfl hsent.1 hsent.2 hs
  · exact hs

theorem State.takeRefresh_heardSound {s : State} (hs : s.heardSound) : s.takeRefresh.heardSound := by
  unfold State.takeRefresh
  split
  · exact hs
  · next e _ =>
    split
    · have hkept := State.offerMarker_changedOnly
        (s.setPeers { s.peers with refreshExpiry := s.nextRefresh e })
      have hpeers := hkept .peers (by simp)
      exact State.heardSound_of_same (congrArg ModeControl.station (hkept .ctl (by simp)))
        (congrArg PeerTracker.roster hpeers) (congrArg PeerTracker.heard hpeers) hs
    · exact hs

theorem step_heardSound {s t : State} (h : step s = .next t) (hs : s.heardSound) : t.heardSound := by
  refine heardSound_opKeeps.stepKeeps (fun _ _ hs => hs) (fun c s t hc he hs => ?_) h hs
  cases c, hc using startsOrSends_cases with
  | hardReset straps => cases he; exact State.heardSound_of_cleared rfl
  | restart straps tx =>
    cases he
    exact whileUp_keeps_of (State.restartRequest_keeps heardSound_opKeeps.toPort
      (fun _ _ => State.heardSound_of_cleared rfl) tx hs) hs
  | settingsLoad record => cases he; exact whileUp_keeps_of (State.endLoad_heardSound _ hs) hs
  | settingsLoadTimeout => cases he; exact whileUp_keeps_of (State.endLoad_heardSound _ hs) hs
  | noticeComplete => cases he; exact whileUp_keeps_of (State.completeNotice_heardSound hs) hs
  | silenceExpiry peer => cases he; exact whileUp_keeps_of (State.takeSilence_heardSound peer hs) hs
  | refreshExpiry => cases he; exact whileUp_keeps_of (State.takeRefresh_heardSound hs) hs
  | _ =>
    have hkept := exec_changedOnly he
    have hpeers : t.peers = s.peers := hkept .peers (by simp [fieldsWritten])
    have hctl : t.ctl = s.ctl := hkept .ctl (by simp [fieldsWritten])
    exact State.heardSound_of_same (congrArg ModeControl.station hctl) (congrArg PeerTracker.roster hpeers)
      (congrArg PeerTracker.heard hpeers) hs

/-- Settles O54. -/
theorem stepKeepsTheTablesSound : Obligations.StepKeepsTheTablesSound := fun _ _ h =>
  ⟨step_itemsSound h, step_poolSound h, step_totesSound h, step_heardSound h, step_readerSound h⟩

/-! ## Items in use -/

/-- The record of an item in use stays, and the item in use, as records are loaded (R2, R3). -/
theorem State.loadRecords_keepsUsed {code : ItemCode} {x : ItemRecord} :
    ∀ (rs : List RawItem) (s : State) (taken : Nat), s.itemInUse code = true → findItem s.items code = some x →
      (∀ r ∈ rs, r.value ≤ 65535) → findItem (s.loadRecords rs taken).1.items code = some x
  | [], _, _, _, hx, _ => hx
  | r :: rs, s, taken, huse, hx, hv => by
    unfold State.loadRecords
    split
    · exact hx
    · next hr =>
      exact State.loadRecords_keepsUsed rs _ _ huse
        ((State.itemsUpdate.taken r hr (hv r List.mem_cons_self)).keepsUsed huse hx)
        fun y hy => hv y (List.mem_cons_of_mem _ hy)

theorem loadItemsOwner_keepsUsed {code : ItemCode} {x : ItemRecord} {s : State} (block : List Byte)
    (huse : s.itemInUse code = true) (hx : findItem s.items code = some x) :
    findItem (loadItemsOwner block s).1.items code = some x := by
  unfold loadItemsOwner
  dsimp only
  split
  · exact hx
  · exact State.loadRecords_keepsUsed _ s _ huse hx (parseItems_value_le _)

theorem removeItemOwner_keepsUsed {code : ItemCode} {x : ItemRecord} {s : State} (block : List Byte)
    (huse : s.itemInUse code = true) (hx : findItem s.items code = some x) :
    findItem (removeItemOwner block s).1.items code = some x := by
  unfold removeItemOwner
  dsimp only
  split_ifs with _ _ hused
  · exact hx
  · exact hx
  · exact hx
  · exact (State.itemsUpdate.removed _ (by simpa using hused)).keepsUsed huse hx

/-- A request whose owner keeps the record of an item in use keeps it. -/
theorem State.serve_keepsUsed {code : ItemCode} {x : ItemRecord} {s : State} {rule : List Byte → Bool} {open' : Bool}
    {refusal : Status → Reply} {tx : List Byte} {owner : List Byte → State → State × Reply}
    (howner : ∀ (block : List Byte) (t : State), t.itemInUse code = true → findItem t.items code = some x →
      findItem (owner block t).1.items code = some x)
    (huse : s.itemInUse code = true) (hx : findItem s.items code = some x) :
    findItem (s.serve rule open' refusal tx owner).items code = some x := by
  obtain h | ⟨st, h⟩ | ⟨block, -, -, h⟩ := s.serve_cases rule open' refusal tx owner
  · rw [h]; exact hx
  · rw [h]; exact hx
  · rw [h]; exact howner block (s.beginRequest tx.length) huse hx

/-- Settles O60: only Load Items and Remove Item change the item table, and neither takes or removes a record in use. -/
theorem itemsInUseNeverChange : Obligations.ItemsInUseNeverChange := by
  intro c s t code r huse hr h hreset
  have hframe : Block.items ∉ fieldsWritten c → findItem t.items code = some r := fun hw => by
    have hitems : t.items = s.items := exec_changedOnly h .items hw
    rwa [hitems]
  cases c with
  | hardReset straps => exact absurd rfl (hreset straps)
  | loadItems tx =>
    cases h
    exact State.whileUp_keeps (P := fun u => findItem u.items code = some r)
      (fun _ _ => State.serve_keepsUsed (fun block _ => loadItemsOwner_keepsUsed block) huse hr) hr
  | removeItem tx =>
    cases h
    exact State.whileUp_keeps (P := fun u => findItem u.items code = some r)
      (fun _ _ => State.serve_keepsUsed (fun block _ => removeItemOwner_keepsUsed block) huse hr) hr
  | _ => exact hframe (by simp [fieldsWritten, readerBlocks])

end Sys2Proof.Machine

/-! PROOF. The settings and their ranges (R160 to R163), and the state a reset leaves (R161). -/

namespace Sys2Proof.Machine

/-! ## Ranges -/

/-- Every field of some settings lies in its range (R162). -/
def Settings.ranged (g : Settings) : Prop :=
  1 ≤ g.laneCapacity ∧ g.laneCapacity ≤ 4 ∧ 1 ≤ g.drawLimit ∧ g.drawLimit ≤ 24 ∧ 1 ≤ g.refresh ∧ g.refresh ≤ 10
    ∧ 3 ≤ g.silenceMultiplier ∧ g.silenceMultiplier ≤ 10 ∧ 30 ≤ g.substituteWait ∧ g.substituteWait ≤ 1800
    ∧ 60 ≤ g.chillWindow ∧ g.chillWindow ≤ 1800 ∧ 1 ≤ g.confirmLimit ∧ g.confirmLimit ≤ 20
    ∧ 30 ≤ g.dwellLimit ∧ g.dwellLimit ≤ 600 ∧ 1 ≤ g.errorThreshold ∧ g.errorThreshold ≤ 255

theorem clampTo_eq_self_iff {lo hi v : Nat} (h : lo ≤ hi) : clampTo lo hi v = v ↔ lo ≤ v ∧ v ≤ hi := by
  unfold clampTo
  omega

theorem clampTo_ranged {lo hi : Nat} (h : lo ≤ hi) (v : Nat) : lo ≤ clampTo lo hi v ∧ clampTo lo hi v ≤ hi := by
  unfold clampTo
  omega

theorem Settings.clamp_ranged (g : Settings) : g.clamp.ranged := by
  have hc {lo hi : Nat} (h : lo ≤ hi) (v : Nat) := clampTo_ranged h v
  exact ⟨(hc (by decide) _).1, (hc (by decide) _).2, (hc (by decide) _).1, (hc (by decide) _).2, (hc (by decide) _).1,
    (hc (by decide) _).2, (hc (by decide) _).1, (hc (by decide) _).2, (hc (by decide) _).1, (hc (by decide) _).2,
    (hc (by decide) _).1, (hc (by decide) _).2, (hc (by decide) _).1, (hc (by decide) _).2, (hc (by decide) _).1,
    (hc (by decide) _).2, (hc (by decide) _).1, (hc (by decide) _).2⟩

/-- The check of the ranges is the ranges (R162). -/
theorem Settings.inRange_iff {g : Settings} : g.inRange = true ↔ g.ranged := by
  cases g
  simp [Settings.inRange, Settings.clamp, Settings.ranged, clampTo_eq_self_iff, and_assoc]

theorem defaultSettings_ranged : defaultSettings.ranged := by
  simp [defaultSettings, Settings.ranged]

/-- A load's settings lie in their ranges, however it ends (R163). -/
theorem formSettings_ranged (bs : List Byte) : (formSettings bs).1.ranged := by
  unfold formSettings
  split_ifs with hgood hrange
  · exact Settings.inRange_iff.mp hrange
  · exact Settings.clamp_ranged _
  · exact defaultSettings_ranged

/-! ## Who changes the settings -/

theorem settings_opKeeps (g : Settings) (o : LoadOutcome) :
    OpKeeps fun s => s.loader.active = g ∧ s.loader.outcome = o where
  setItems _ hs := hs
  setBays _ hs := hs
  setPort _ hs := hs
  setDev _ hs := hs
  setDraws _ hs := hs
  setClock _ hs := hs
  writing _ _ hs := hs
  setMode _ _ _ _ _ hs := hs
  counted _ _ hs := hs
  marked _ _ _ _ hs := hs
  joined _ _ _ hs := hs
  emptied _ hs := hs
  seen _ hs := hs
  laneKept _ _ hs := hs
  laneJoined _ _ hs := hs
  mapped _ hs := hs
  put _ hs := hs
  decoded _ _ hs := hs
  readsCounted _ _ _ hs := hs
  delivered {s p sequence payload} _ _ _ _ _ hs := by
    rwa [show (s.deliver p sequence payload).loader = s.loader from
      s.deliver_changedOnly p sequence payload .loader (by simp)]

theorem station_opKeeps (n : Nat) : OpKeeps fun s => s.ctl.station = n where
  setItems _ hs := hs
  setBays _ hs := hs
  setPort _ hs := hs
  setDev _ hs := hs
  setDraws _ hs := hs
  setClock _ hs := hs
  writing _ _ hs := hs
  setMode _ _ _ _ _ hs := hs
  counted _ _ hs := hs
  marked _ _ _ _ hs := hs
  joined _ _ _ hs := hs
  emptied _ hs := hs
  seen _ hs := hs
  laneKept _ _ hs := hs
  laneJoined _ _ hs := hs
  mapped _ hs := hs
  put _ hs := hs
  decoded _ _ hs := hs
  readsCounted _ _ _ hs := hs
  delivered {s p sequence payload} _ _ _ _ _ hs := by
    rwa [show (s.deliver p sequence payload).ctl = s.ctl from
      s.deliver_changedOnly p sequence payload .ctl (by simp)]

theorem State.endLoad_station (s : State) (r : Settings × LoadOutcome) : (s.endLoad r).ctl.station = s.ctl.station := by
  obtain h | ⟨-, -, h⟩ := s.endLoad_cases r
  · rw [h]
  · rw [h]
    have hctl : (s.loadOutcome r).ctl = s.ctl := s.loadOutcome_changedOnly r .ctl (by simp)
    have hstation : (s.loadOutcome r).ctl.station = s.ctl.station := congrArg ModeControl.station hctl
    exact hstation

theorem State.loadOutcome_loader (s : State) (r : Settings × LoadOutcome) :
    (s.loadOutcome r).loader = { s.loader with active := r.1, outcome := r.2 } := by
  unfold State.loadOutcome
  dsimp only
  split
  · rfl
  · rfl
  · rfl

theorem State.endLoad_ranged {s : State} {r : Settings × LoadOutcome} (hr : r.1.ranged)
    (hs : s.loader.active.ranged) : (s.endLoad r).loader.active.ranged := by
  obtain h | ⟨-, -, h⟩ := s.endLoad_cases r
  · rwa [h]
  · rw [h]
    change (s.loadOutcome r).loader.active.ranged
    rw [State.loadOutcome_loader]
    exact hr

section
variable {c : Instr} {s t : State}

/-- Only a start moves the station number (R160). -/
theorem exec_station (h : exec c s = .next t) (hreset : ∀ straps, c ≠ .hardReset straps)
    (hrestart : ∀ straps tx, c ≠ .restart straps tx) : t.ctl.station = s.ctl.station := by
  cases hc : startsOrSends c with
  | false => exact (station_opKeeps s.ctl.station).exec hc h rfl
  | true =>
    cases c, hc using startsOrSends_cases with
    | hardReset straps => exact absurd rfl (hreset straps)
    | restart straps tx => exact absurd rfl (hrestart straps tx)
    | settingsLoad record =>
      cases h
      exact whileUp_keeps_of (P := fun u => u.ctl.station = s.ctl.station) (s.endLoad_station _) rfl
    | settingsLoadTimeout =>
      cases h
      exact whileUp_keeps_of (P := fun u => u.ctl.station = s.ctl.station) (s.endLoad_station _) rfl
    | _ => exact congrArg ModeControl.station (exec_changedOnly h .ctl (by simp [fieldsWritten]))

/-- Only a start or the end of a load changes the settings and the load outcome (R163). -/
theorem exec_settings (h : exec c s = .next t) (hreset : ∀ straps, c ≠ .hardReset straps)
    (hrestart : ∀ straps tx, c ≠ .restart straps tx) (hload : ∀ record, c ≠ .settingsLoad record)
    (htimeout : c ≠ .settingsLoadTimeout) :
    t.loader.active = s.loader.active ∧ t.loader.outcome = s.loader.outcome := by
  cases hc : startsOrSends c with
  | false => exact (settings_opKeeps s.loader.active s.loader.outcome).exec hc h ⟨rfl, rfl⟩
  | true =>
    cases c, hc using startsOrSends_cases with
    | hardReset straps => exact absurd rfl (hreset straps)
    | restart straps tx => exact absurd rfl (hrestart straps tx)
    | settingsLoad record => exact absurd rfl (hload record)
    | settingsLoadTimeout => exact absurd rfl htimeout
    | resetLow => cases h; exact ⟨rfl, rfl⟩
    | _ =>
      have hloader := exec_changedOnly h .loader (by simp [fieldsWritten])
      exact ⟨congrArg Loader.active hloader, congrArg Loader.outcome hloader⟩

theorem exec_settingsInRange (h : exec c s = .next t) (hs : s.settingsInRange) : t.settingsInRange := by
  cases c with
  | hardReset straps => cases h; exact defaultSettings_ranged
  | restart straps tx =>
    cases h
    exact whileUp_keeps_of (P := State.settingsInRange) (State.restartRequest_keeps
      (PortKeeps.of_setPort fun _ _ hu => hu) (fun _ _ => defaultSettings_ranged) tx hs) hs
  | settingsLoad record =>
    cases h
    exact whileUp_keeps_of (P := State.settingsInRange) (State.endLoad_ranged (formSettings_ranged _) hs) hs
  | settingsLoadTimeout =>
    cases h
    exact whileUp_keeps_of (P := State.settingsInRange) (State.endLoad_ranged defaultSettings_ranged hs) hs
  | _ =>
    obtain ⟨hactive, -⟩ := exec_settings h (by simp) (by simp) (by simp) (by simp)
    rwa [State.settingsInRange, hactive]

end

/-- Settles O55. -/
theorem settingsStayInRangeAndFixed : Obligations.SettingsStayInRangeAndFixed :=
  ⟨fun _ _ hs h => step_keeps (P := State.settingsInRange) (fun _ _ hs => hs) (fun _ _ _ => exec_settingsInRange) h hs,
    fun _ _ _ h hreset hrestart => ⟨exec_station h hreset hrestart, exec_settings h hreset hrestart⟩⟩

/-! ## Reset -/

theorem State.laneSound_of_cleared {s : State} (h : s.lane = Lane.cleared) : s.laneSound := by
  rw [State.laneSound, h]
  exact ⟨Nat.zero_le _, by simp [Lane.cleared], ⟨0, by simp [Lane.cleared], by simp [Lane.cleared]⟩, fun _ => rfl⟩

/-- With every bay and the lane empty the Build Store is sound (R22). -/
theorem State.storeSound_of_empty {s : State} (hb : s.bays = emptyBays) (hl : s.lane = Lane.cleared) : s.storeSound := by
  have hnone := State.bay_of_emptyBays hb
  refine ⟨State.laneSound_of_cleared hl, fun b l hm => ?_, fun b i => ?_, State.linesNamed_of_emptyBays hb,
    fun b bd h => ?_, fun b bd h => ?_⟩
  · rw [State.linesOf_of_emptyBays hb] at hm
    cases hm
  · rw [State.pinnedOn, State.linesOf_of_emptyBays hb, State.grantedTo, hl]
    rfl
  · cases (hnone b).symm.trans h
  · cases (hnone b).symm.trans h

theorem State.accumulatorsSound_of_empty {s : State} (hb : s.bays = emptyBays) : s.accumulatorsSound :=
  ⟨State.linesNamed_of_emptyBays hb, fun _ => State.bay_of_emptyBays hb,
    fun b _ h => by cases (State.bay_of_emptyBays hb b).symm.trans h⟩

/-- The state a reset leaves, whatever stands in the queue of commands. -/
def State.resetWith (straps : BitVec 5) (pending : List Instr) (draws : Nat) : State :=
  { State.afterReset straps with pending := pending, draws := draws }

theorem State.resetWith_sound (straps : BitVec 5) (pending : List Instr) (draws : Nat) :
    let t := State.resetWith straps pending draws
    t.attnFollows ∧ t.readyFollows ∧ t.deviationsBounded ∧ t.deviationsNumbered ∧ t.lineSound ∧ t.itemsSound
      ∧ t.poolSound ∧ t.totesSound ∧ t.heardSound ∧ t.readerSound ∧ t.settingsInRange ∧ t.accumulatorsSound
      ∧ t.storeSound :=
  ⟨(State.attnFollows_of_up rfl).mpr BenchPort.cleared_attnSound, rfl, DeviationTable.empty_bounded 0,
    DeviationTable.empty_numbered 0,
    (State.lineSound_of_up rfl).mpr ⟨LineInterface.stopped_sound, fun _ => ⟨rfl, rfl, rfl, rfl⟩⟩,
    ⟨Nat.zero_le _, by simp [State.resetWith, State.afterReset], by simp [State.resetWith, State.afterReset]⟩,
    State.poolSound_of_emptyBays rfl, State.totesSound_of_cleared rfl, State.heardSound_of_cleared rfl,
    State.readerSound_of_cleared rfl rfl, defaultSettings_ranged, State.accumulatorsSound_of_empty rfl,
    State.storeSound_of_empty rfl rfl⟩

/-- Settles O58. -/
theorem resetMeetsEveryInvariant : Obligations.ResetMeetsEveryInvariant := by
  rintro straps s t (rfl | h)
  · exact State.resetWith_sound 0 [] 0
  · cases h
    exact State.resetWith_sound straps s.pending s.draws

end Sys2Proof.Machine

/-! PROOF. The requests of R185 as a table: what each does while the port is HANDLING and when a check of R175 fails
(R173 to R176), and the codes that name them. -/

namespace Sys2Proof.Machine

/-! ## A request that is open in LOADING -/

/-- A request that is taken in every mode reaches its owner (R173, R177). -/
theorem State.request_open {n : Nat} {tx block : List Byte} {s : State} {owner : List Byte → State → State × Reply}
    (hs : s.listens) (hb : carries tx block) (hn : block.length = n) :
    (s.whileUp fun t => t.serve (fixedLength n) true Reply.refuse tx owner)
      = (owner block (s.beginRequest tx.length)).1.finishRequest (owner block (s.beginRequest tx.length)).2 := by
  obtain ⟨hup, hidle⟩ := hs
  rw [State.whileUp_of_up _ hup, State.serve_carries _ _ hidle (.inr rfl) hb (by simp [fixedLength, hn])]

/-! ## The rows -/

/-- What the Bench Port does with a request by its row in the table: ignored whole while HANDLING (R174), and answered
by the first check of R175 that fails. -/
structure RequestRow.obeys (row : RequestRow) : Prop where
  handling : ∀ (tx : List Byte) (s : State), s.resetLow = false → s.port.state = .handling →
    exec (row.command tx) s = .next (s.ignoreTransaction tx.length)
  refused : ∀ (tx : List Byte) (s : State) (st : Status), s.listens →
    checkRequest row.lengthOk (s.ctl.mode == .loading && !row.inLoading) tx = .error st →
      exec (row.command tx) s = .next (s.replied tx.length { status := st, output := row.refusedOutput })

/-- A request that goes through `serve` obeys its row. -/
theorem RequestRow.obeys_of_serve {row : RequestRow} {rule : List Byte → Bool} {refusal : Status → Reply}
    {owner : List Byte → State → State × Reply}
    (hexec : ∀ (tx : List Byte) (s : State),
      exec (row.command tx) s = .next (s.whileUp fun t => t.serve rule row.inLoading refusal tx owner))
    (hrule : rule = row.lengthOk) (hrefusal : refusal = fun st => { status := st, output := row.refusedOutput }) :
    row.obeys where
  handling tx s hup hh := by rw [hexec, State.whileUp_of_up _ hup, State.serve_handling _ _ _ _ _ hh]
  refused tx s st hs hc := by
    obtain ⟨hup, hidle⟩ := hs
    subst hrule
    rw [hexec, State.whileUp_of_up _ hup, State.serve_refused _ _ hidle hc, hrefusal]

/-- A length fixed by the count in the first byte, as R185 lists it. -/
theorem countedLength_eq (per : Nat) :
    countedLength per = fun b => decide (b ≠ []) && b.length == 1 + per * (b.headD 0).toNat := by
  funext b
  cases b with
  | nil => rfl
  | cons x xs =>
    simp only [countedLength, ne_eq, reduceCtorEq, not_false_eq_true, decide_true, Bool.true_and, List.length_cons,
      List.headD_cons]
    rw [Bool.eq_iff_iff, beq_iff_eq, beq_iff_eq]
    omega

/-- A one-byte field of a block that reaches so far. -/
theorem fieldAt_one {block : List Byte} {k : Nat} (h : k < block.length) : fieldAt block k 1 = (block.getD k 0).toNat := by
  have hk : block[k]? = some block[k] := List.getElem?_eq_getElem h
  rw [fieldAt_one_of_getElem? hk, List.getD_eq_getElem?_getD, hk]
  rfl

theorem openBuildLength_eq :
    openBuildLength = fun b => decide (13 ≤ b.length) && b.length == 13 + 10 * (b.getD 12 0).toNat := by
  funext b
  unfold openBuildLength
  by_cases h : 13 ≤ b.length
  · rw [fieldAt_one (by omega)]
  · simp [h]

theorem restart_obeys (straps : BitVec 5) (row : RequestRow) (hcommand : row.command = .restart straps)
    (hlength : row.lengthOk = fun b => b.length == 0) (hmode : row.inLoading = false) (hout : row.refusedOutput = []) :
    row.obeys where
  handling tx s hup hh := by
    rw [hcommand]
    change Host.Outcome.next (s.whileUp fun t => t.restartRequest straps tx) = _
    rw [State.whileUp_of_up _ hup, State.restartRequest, if_pos hh]
  refused tx s st hs hc := by
    obtain ⟨hup, hidle⟩ := hs
    rw [hlength, hmode, Bool.not_false, Bool.and_true] at hc
    have hc' : checkRequest (fixedLength 0) (s.ctl.mode == .loading) tx = .error st := hc
    rw [hcommand, hout]
    change Host.Outcome.next (s.whileUp fun t => t.restartRequest straps tx) = _
    rw [State.whileUp_of_up _ hup, State.restartRequest, if_neg (by simp [hidle]), hc']
    exact congrArg Host.Outcome.next (State.begin_finish _ _ hidle)

/-- Every request of R185 obeys its row. -/
theorem requestRows_obey (straps : BitVec 5) (laneFull : Bool) : ∀ row ∈ requestRows straps laneFull, row.obeys := by
  simp only [requestRows, List.forall_mem_cons, List.not_mem_nil, false_imp_iff, implies_true, and_true]
  have hcounted := countedLength_eq
  refine ⟨?_, ?_, ?_, ?_, ?_, ?_, ?_, ?_, ?_, ?_, ?_, ?_, ?_, ?_, ?_, ?_, ?_, ?_, ?_, ?_, ?_, ?_, ?_,
    restart_obeys straps _ rfl rfl rfl rfl⟩
  case refine_6 => exact RequestRow.obeys_of_serve (fun _ _ => rfl) (hcounted 7) rfl
  case refine_8 => exact RequestRow.obeys_of_serve (fun _ _ => rfl) openBuildLength_eq rfl
  case refine_14 =>
    exact RequestRow.obeys_of_serve (fun _ _ => rfl) ((hcounted 1).trans (by simp only [Nat.one_mul])) rfl
  all_goals exact RequestRow.obeys_of_serve (fun _ _ => rfl) rfl rfl

theorem checkRequest_cons (rule : List Byte → Bool) (closed : Bool) (len : Byte) (rest : List Byte) :
    checkRequest rule closed (len :: rest)
      = if rest.length < len.toNat ∨ 250 < len.toNat then .error .badRequest
        else if rule (rest.take len.toNat) = false then .error .badRequest
        else if closed = true then .error .busy
        else .ok (rest.take len.toNat) := rfl

theorem RequestRow.refusal_cons (row : RequestRow) (mode : Mode) (len : Byte) (rest : List Byte) :
    row.refusal mode (len :: rest)
      = if 250 < len.toNat ∨ rest.length < len.toNat then some .badRequest
        else if row.lengthOk (rest.take len.toNat) = false then some .badRequest
        else if mode = .loading ∧ row.inLoading = false then some .busy
        else none := rfl

/-- The first check of R175 that fails, as the table states it. -/
theorem RequestRow.checkRequest_of_refusal {row : RequestRow} {mode : Mode} {tx : List Byte} {st : Status}
    (h : row.refusal mode tx = some st) :
    checkRequest row.lengthOk (mode == .loading && !row.inLoading) tx = .error st := by
  cases tx with
  | nil =>
    cases h
    rfl
  | cons len rest =>
    rw [RequestRow.refusal_cons] at h
    rw [checkRequest_cons]
    split_ifs at h with hshort hlength hbusy
    · cases h
      rw [if_pos hshort.symm]
    · cases h
      rw [if_neg (fun hn => hshort hn.symm), if_pos hlength]
    · cases h
      rw [if_neg (fun hn => hshort hn.symm), if_neg hlength, if_pos (by simp [hbusy.1, hbusy.2])]

/-! ## Codes -/

/-- The codes of the 24 requests (R185). -/
def requestCodes : List Byte :=
  [0x01, 0x02, 0x03, 0x04, 0x05, 0x10, 0x11, 0x12, 0x13, 0x14, 0x15, 0x16, 0x17, 0x20, 0x21, 0x22, 0x30, 0x31, 0x40,
    0x41, 0x42, 0x43, 0x44, 0x45]

theorem requestRows_codes (straps : BitVec 5) (laneFull : Bool) :
    (requestRows straps laneFull).map (·.code) = requestCodes := rfl

theorem isRequestCode_iff (code : Byte) : isRequestCode code = true ↔ code ∈ requestCodes := by
  have h : ∀ code : Byte, isRequestCode code = requestCodes.contains code := by decide +kernel
  rw [h, List.contains_iff_mem]

/-- Whether a code names a request does not depend on the pins. -/
theorem requestOf_isSome (straps : BitVec 5) (laneFull : Bool) (code : Byte) :
    (requestOf straps laneFull code).isSome = isRequestCode code := by
  unfold isRequestCode requestOf
  split <;> rfl

theorem transactionCommand_request {straps : BitVec 5} {laneFull : Bool} {code : Byte} {request : List Byte → Instr}
    (h : code ≠ 0) (hr : requestOf straps laneFull code = some request) (tx : List Byte) :
    transactionCommand straps laneFull code tx = request tx := by
  rw [transactionCommand, if_neg h, hr]

/-- Every row's code names the row's command (R185). -/
theorem requestRows_named (straps : BitVec 5) (laneFull : Bool) :
    ∀ row ∈ requestRows straps laneFull, row.code ≠ 0 ∧ requestOf straps laneFull row.code = some row.command := by
  simp only [requestRows, List.forall_mem_cons, List.not_mem_nil, false_imp_iff, implies_true, and_true]
  refine ⟨?_, ?_, ?_, ?_, ?_, ?_, ?_, ?_, ?_, ?_, ?_, ?_, ?_, ?_, ?_, ?_, ?_, ?_, ?_, ?_, ?_, ?_, ?_, ?_⟩
  all_goals exact ⟨by decide, rfl⟩

/-- An unknown request code is neither the fetch code nor one of the 24 (R175). -/
theorem unknownRequestCode_wellFormed {code : Byte} {tx : List Byte} :
    (Instr.unknownRequestCode code tx).wellFormed = true ↔ ¬ (code = 0x00 ∨ isRequestCode code = true) := by
  simp only [Instr.wellFormed, Bool.and_eq_true, bne_iff_ne, Bool.not_eq_true', not_or, Bool.not_eq_true]

/-- A transaction with a code that is none of the 24 is answered BAD_REQUEST (R175, check 1). -/
theorem exec_unknownRequestCode {code : Byte} {tx : List Byte} {s : State} (hs : s.listens)
    (hw : (Instr.unknownRequestCode code tx).wellFormed = true) :
    exec (.unknownRequestCode code tx) s = .next (s.replied tx.length (bareReply .badRequest)) := by
  obtain ⟨hup, hidle⟩ := hs
  change Host.Outcome.next (s.whileUp fun t => t.unknownRequest code tx) = _
  rw [State.whileUp_of_up _ hup, State.unknownRequest, if_neg (unknownRequestCode_wellFormed.mp hw), if_neg (by simp [hidle])]
  exact congrArg Host.Outcome.next (State.begin_finish _ _ hidle)

/-- Settles O9: each row's refusals by the checks in their order, an unknown code, and the naming by the first byte. -/
theorem requestChecksRefuseWithoutEffect : Obligations.RequestChecksRefuseWithoutEffect := by
  refine ⟨fun straps laneFull row hrow tx s st hs h => ?_, fun code tx s hs hw => exec_unknownRequestCode hs hw,
    fun straps laneFull tx => ⟨fun row hrow => ?_, if_pos rfl, fun code hzero hcode => ?_⟩⟩
  · exact (requestRows_obey straps laneFull row hrow).refused tx s st hs (RequestRow.checkRequest_of_refusal h)
  · obtain ⟨hzero, hname⟩ := requestRows_named straps laneFull row hrow
    exact transactionCommand_request hzero hname tx
  · have hunknown : isRequestCode code = false := by
      rw [← Bool.not_eq_true, isRequestCode_iff, ← requestRows_codes straps laneFull, List.mem_map]
      rintro ⟨row, hrow, rfl⟩
      exact hcode row hrow rfl
    refine ⟨unknownRequestCode_wellFormed.mpr (not_or.mpr ⟨hzero, by simp [hunknown]⟩), ?_⟩
    have hnone : requestOf straps laneFull code = none := by
      rw [← Option.not_isSome_iff_eq_none, requestOf_isSome, hunknown]
      simp
    rw [transactionCommand, if_neg hzero, hnone]

/-! ## Fetching, and HANDLING -/

theorem State.ignoreTransaction_of_handling {s : State} (h : s.port.state = .handling) (n : Nat) :
    s.ignoreTransaction n = s.setPort { s.port with miso := 0x3C#8 :: List.replicate n 0#8 } := by
  rw [State.ignoreTransaction, h]
  rfl

/-- A fetch on a listening port (R173). -/
theorem exec_fetchTransaction {clocked : Nat} {s : State} (hs : s.listens) :
    exec (.fetchTransaction clocked) s = .next (s.setPort
      { s.port with
        reply := none, ready := false, miso := 0x5A#8 :: clockOut clocked (replyBytes s.port.reply) }) := by
  obtain ⟨hup, hidle⟩ := hs
  change Host.Outcome.next (s.whileUp fun t => t.fetch clocked) = _
  rw [State.whileUp_of_up _ hup, State.fetch, if_neg (by simp [hidle]), hidle]
  rfl

/-- Settles O10: the fetch with a reply held and with none, every row and an unknown code while HANDLING, and the
codes. -/
theorem fetchSendsTheReplyOnceAndHandlingIgnores : Obligations.FetchSendsTheReplyOnceAndHandlingIgnores := by
  refine ⟨fun clocked s hs => ?_, fun s hup hh => ⟨fun straps laneFull row hrow tx => ?_, fun code tx hw => ?_,
    fun clocked => ?_⟩, rfl⟩
  · rw [exec_fetchTransaction hs]
    cases s.port.reply with
    | none => rfl
    | some r => rfl
  · rw [(requestRows_obey straps laneFull row hrow).handling tx s hup hh, State.ignoreTransaction_of_handling hh]
  · change Host.Outcome.next (s.whileUp fun t => t.unknownRequest code tx) = _
    rw [State.whileUp_of_up _ hup, State.unknownRequest, if_neg (unknownRequestCode_wellFormed.mp hw), if_pos hh,
      State.ignoreTransaction_of_handling hh]
  · change Host.Outcome.next (s.whileUp fun t => t.fetch clocked) = _
    rw [State.whileUp_of_up _ hup, State.fetch, if_pos hh, State.ignoreTransaction_of_handling hh]

end Sys2Proof.Machine

/-! PROOF. Urgency scores (R42 to R46) and the ranking of entries (R51): the one order the key gives, and the sorting by
it. -/

namespace Sys2Proof.Machine

/-! ## The key -/

/-- R51 written out. -/
theorem ranksAbove_iff (x y : RankKey) : ranksAbove x y = true ↔
    y.score < x.score ∨ (x.score = y.score ∧ (x.station < y.station ∨ (x.station = y.station
      ∧ (x.bay < y.bay ∨ (x.bay = y.bay ∧ x.line < y.line))))) := by
  unfold ranksAbove
  split_ifs with hscore hstation hbay
  · simp only [decide_eq_true_eq]
    omega
  · simp only [decide_eq_true_eq]
    omega
  · simp only [decide_eq_true_eq]
    omega
  · simp only [decide_eq_true_eq]
    omega

theorem ranksAbove_false_iff (x y : RankKey) : ranksAbove x y = false ↔
    x.score < y.score ∨ (x.score = y.score ∧ (y.station < x.station ∨ (x.station = y.station
      ∧ (y.bay < x.bay ∨ (x.bay = y.bay ∧ y.line ≤ x.line))))) := by
  rw [← Bool.not_eq_true, ranksAbove_iff]
  omega

theorem ranksAbove_self (x : RankKey) : ranksAbove x x = false := by
  rw [ranksAbove_false_iff]
  omega

theorem ranksAbove_iff_of_ne {x y : RankKey} (h : x ≠ y) : ranksAbove x y = true ↔ ranksAbove y x = false := by
  have hne : ¬ (x.score = y.score ∧ x.station = y.station ∧ x.bay = y.bay ∧ x.line = y.line) := by
    rintro ⟨hscore, hstation, hbay, hline⟩
    cases x
    cases y
    simp_all
  rw [ranksAbove_iff, ranksAbove_false_iff]
  omega

theorem ranksAbove_trans {x y z : RankKey} (h : ranksAbove x y = true) (k : ranksAbove y z = true) :
    ranksAbove x z = true := by
  rw [ranksAbove_iff] at *
  omega

theorem ranksAbove_asymm {x y : RankKey} (h : ranksAbove x y = true) : ranksAbove y x = false := by
  rw [ranksAbove_iff] at h
  rw [ranksAbove_false_iff]
  omega

/-- Of three entries, where none ranks above the one before it, the last does not rank above the first. -/
theorem not_ranksAbove_trans {x y z : RankKey} (h : ranksAbove y x = false) (k : ranksAbove z y = false) :
    ranksAbove z x = false := by
  rw [ranksAbove_false_iff] at *
  omega

/-! ## Sorting -/

section
variable {α : Type} (key : α → RankKey)

/-- A list in ranking order: none ranks above one before it. -/
def Ranked (xs : List α) : Prop := xs.Pairwise fun x y => ranksAbove (key y) (key x) = false

theorem insertRanked_perm (x : α) : ∀ xs : List α, (insertRanked key x xs).Perm (x :: xs)
  | [] => .refl _
  | y :: ys => by
    unfold insertRanked
    split
    · exact .refl _
    · exact ((insertRanked_perm x ys).cons y).trans (.swap x y ys)

theorem rankSort_perm : ∀ xs : List α, (rankSort key xs).Perm xs
  | [] => .refl _
  | x :: xs => (insertRanked_perm key x _).trans ((rankSort_perm xs).cons x)

theorem insertRanked_ranked (x : α) : ∀ xs : List α, Ranked key xs → Ranked key (insertRanked key x xs)
  | [], _ => List.pairwise_singleton _ _
  | y :: ys, h => by
    obtain ⟨hy, hys⟩ := List.pairwise_cons.mp h
    unfold insertRanked
    split
    · next habove =>
      refine List.pairwise_cons.mpr ⟨fun z hz => ?_, h⟩
      rcases List.mem_cons.mp hz with rfl | hz
      · exact ranksAbove_asymm habove
      · exact not_ranksAbove_trans (ranksAbove_asymm habove) (hy z hz)
    · next hbelow =>
      refine List.pairwise_cons.mpr ⟨fun z hz => ?_, insertRanked_ranked x ys hys⟩
      rcases List.mem_cons.mp ((insertRanked_perm key x ys).mem_iff.mp hz) with rfl | hz
      · simpa using hbelow
      · exact hy z hz

theorem rankSort_ranked : ∀ xs : List α, Ranked key (rankSort key xs)
  | [] => List.Pairwise.nil
  | x :: xs => insertRanked_ranked key x _ (rankSort_ranked xs)

variable {key}

/-- Entries with different keys in ranking order rank each above the next. -/
theorem Ranked.strict {xs : List α} (h : Ranked key xs) (hn : (xs.map key).Nodup) :
    xs.Pairwise fun x y => ranksAbove (key x) (key y) = true := by
  rw [List.Nodup, List.pairwise_map] at hn
  exact (h.and hn).imp fun ⟨hxy, hne⟩ => (ranksAbove_iff_of_ne hne).mpr hxy

/-- Entries with different keys have one ranking order (R51). -/
theorem rankSort_eq_of_perm {xs ys : List α} (h : xs.Perm ys) (hn : (xs.map key).Nodup) :
    rankSort key xs = rankSort key ys := by
  have hx := rankSort_perm key xs
  have hy := rankSort_perm key ys
  have hnx : ((rankSort key xs).map key).Nodup := (hx.map key).nodup_iff.mpr hn
  have hny : ((rankSort key ys).map key).Nodup := ((hy.trans h.symm).map key).nodup_iff.mpr hn
  refine ((hx.trans h).trans hy.symm).eq_of_pairwise (fun a b _ _ hab hba => ?_)
    ((rankSort_ranked key xs).strict hnx) ((rankSort_ranked key ys).strict hny)
  rw [ranksAbove_asymm hab] at hba
  cases hba

end

/-- Settles O49. -/
theorem rankingIsOneOrder : Obligations.RankingIsOneOrder := by
  refine ⟨ranksAbove_self, fun _ _ h => ranksAbove_iff_of_ne h, fun _ _ _ => ranksAbove_trans, ranksAbove_iff,
    fun xs ys h hn => ⟨rankSort_eq_of_perm h hn, rankSort_perm _ xs, ?_⟩⟩
  exact (rankSort_ranked _ xs).strict (((rankSort_perm _ xs).map _).nodup_iff.mpr hn)

/-! ## Scores -/

/-- The slack term falls from 32768 at no slack to 29 at 65535 seconds (R43). -/
theorem slackTerm_bounds {s : Nat} (h : s ≤ 65535) : 29 ≤ slackTerm s ∧ slackTerm s ≤ 32768 := by
  unfold slackTerm
  constructor
  · rw [Nat.le_div_iff_mul_le (by omega)]
    omega
  · rw [Nat.div_le_iff_le_mul_add_pred (by omega)]
    omega

/-- The completion term reaches at most 16327 while a unit of the build is still to be placed (R44). -/
theorem completionTerm_le {t u : Nat} (hu : 1 ≤ u) (hut : u ≤ t) (ht : t ≤ 288) : completionTerm t u ≤ 16327 := by
  unfold completionTerm
  rw [Nat.div_le_iff_le_mul_add_pred (by omega), Nat.mul_sub]
  omega

theorem waitTerm_le (tenths : Nat) : waitTerm tenths ≤ 16320 := by
  unfold waitTerm
  omega

theorem slack_eq (deadline now : Nat) : slack deadline now = (deadline - now) / 10 := by
  unfold slack
  split
  · rfl
  · omega

/-- Settles O48. -/
theorem urgencyScoreStaysInItsRange : Obligations.UrgencyScoreStaysInItsRange := by
  refine ⟨fun now bd l => ⟨?_, fun hd hpos hle hmax => ?_⟩, rfl, rfl⟩
  · change urgency _ _ _ _ _ = _
    rw [urgency, slack_eq]
    rfl
  · obtain ⟨hlo, hhi⟩ := slackTerm_bounds (s := slack bd.deadline now) (by rw [slack_eq]; omega)
    have hcompletion := completionTerm_le hpos hle hmax
    have hwait := waitTerm_le (l.wait.value now)
    change 29 ≤ urgency bd.deadline now bd.total bd.remaining (l.wait.value now)
      ∧ urgency bd.deadline now bd.total bd.remaining (l.wait.value now) ≤ 65415
    have hunits : bd.remaining = (bd.lines.map fun x => x.ordered - x.placed).sum := rfl
    rw [urgency, hunits]
    omega

end Sys2Proof.Machine

/-! PROOF. The reporting requests (R71, R134, R171, R177 to R179), Read Events and Set Event Enables (R181, R182), and
Restart (R169): what each answers, and that a set flag stays set until the flags are read. -/

namespace Sys2Proof.Machine

/-! ## Requests that only report -/

section
variable {tx : List Byte} {s : State} {output : State → List Byte}

/-- A request that reports in every mode is answered with its output as the part stands (R177). -/
theorem State.report_open (hs : s.listens) (hb : carries tx []) (ho : output (s.beginRequest tx.length) = output s) :
    (s.whileUp fun t => t.serve (fixedLength 0) true Reply.refuse tx (reportOwner output))
      = s.replied tx.length (okReply (output s)) := by
  rw [State.request_open (n := 0) hs hb rfl]
  exact (State.begin_finish _ _ hs.2).trans (congrArg (fun o => s.replied tx.length (okReply o)) ho)

/-- A request that reports outside LOADING (R134, R171, R177). -/
theorem State.report_taken (hs : s.listens) (hb : carries tx []) (hm : s.ctl.mode ≠ .loading)
    (ho : output (s.beginRequest tx.length) = output s) :
    (s.whileUp fun t => t.serve (fixedLength 0) false Reply.refuse tx (reportOwner output))
      = s.replied tx.length (okReply (output s)) := by
  rw [State.request_taken (n := 0) hs hb rfl hm]
  exact (State.begin_finish _ _ hs.2).trans (congrArg (fun o => s.replied tx.length (okReply o)) ho)

end

theorem State.baysInUse_eq (s : State) : s.baysInUse = allBays.countP fun b => (s.bay b).isSome :=
  (List.countP_eq_length_filter ..).symm

/-- Settles O11: each is a request that reports, in every mode or outside LOADING. -/
theorem identityStatusAndClockReport : Obligations.IdentityStatusAndClockReport := by
  refine ⟨fun tx s hs hb => ⟨?_, ?_, fun hm => ?_⟩, rfl, rfl⟩
  · exact congrArg Host.Outcome.next (State.report_open hs hb rfl)
  · rw [← State.baysInUse_eq]
    exact congrArg Host.Outcome.next (State.report_open hs hb rfl)
  · exact congrArg Host.Outcome.next (State.report_taken (output := fun u => be 4 u.clock) hs hb hm rfl)

/-- The bytes of a lane entry, written out (R185). -/
theorem LaneEntry.bytes_eq (e : LaneEntry) : e.bytes = code16 e.tote ++ [e.serial] ++ code16 e.item ++ be 1 e.drawn
    ++ (match e.state with
      | .inbound => [0] ++ be 4 e.divertTime ++ [0, 0, 0, 0]
      | .atBench arrival => [1] ++ be 4 e.divertTime ++ be 4 arrival)
    ++ [if e.stale = true then 1 else 0] ++ be 1 e.allocations.length
    ++ e.allocations.flatMap fun a => be 1 a.bay.val ++ be 1 a.line ++ be 1 a.granted := by
  unfold LaneEntry.bytes LaneEntry.stateBytes
  cases e.state with
  | inbound => rfl
  | atBench arrival => rfl

/-- Settles O14: a request that reports, its entries in the layout of R185. -/
theorem readLaneReportsTheLane : Obligations.ReadLaneReportsTheLane := by
  intro laneFull tx s hs hm hb
  refine (congrArg Host.Outcome.next (State.report_taken (output := fun u => u.laneOutput laneFull) hs hb hm rfl)).trans ?_
  rw [State.laneOutput, funext LaneEntry.bytes_eq]
  rfl

/-- Settles O16: the counters before the clear in the reply, the settings as they stand, and BUSY in LOADING. -/
theorem lineCountersClearOnReadAndSettingsReport : Obligations.LineCountersClearOnReadAndSettingsReport := by
  refine ⟨rfl, fun tx s hs hb => ⟨fun hm => ?_, fun hm => ?_, fun hm => ?_⟩⟩
  · refine congrArg Host.Outcome.next ((State.request_taken hs hb rfl hm).trans ?_)
    exact State.begin_finish (s := s.setLi { s.li with counters := LineCounters.zero, degraded := false }) _ _ hs.2
  · exact congrArg Host.Outcome.next (State.request_loading hs hb rfl hm)
  · refine (congrArg Host.Outcome.next (State.report_taken hs hb hm rfl)).trans ?_
    rw [State.settingsOutput, Settings.bytes]
    rfl

/-! ## Read Bay -/

theorem bayOf_of_lt {n : Nat} {b : BayNo} (h : b.val = n) : bayOf n = some b := by
  subst h
  exact dif_pos b.isLt

theorem bayOf_of_ge {n : Nat} (h : 8 ≤ n) : bayOf n = none := dif_neg (by omega)

/-- A one-byte parameter. -/
theorem fieldAt_single (n : Byte) : fieldAt [n] 0 1 = n.toNat := fieldAt_one_of_getElem? rfl

theorem be_one_toNat (n : Byte) : be 1 n.toNat = [n] := by
  simp [be]

theorem flagByte_flags (exhausted advertised : Bool) (score : List Byte) :
    [flagByte exhausted advertised advertised] ++ (if advertised = true then score else [0, 0])
      = if advertised = true then [if exhausted = true then 7 else 6] ++ score
        else [if exhausted = true then 1 else 0, 0, 0] := by
  cases exhausted <;> cases advertised <;> rfl

theorem flagByte_sum (a b c : Bool) :
    flagByte a b c = (if a = true then 1 else 0) + (if b = true then 2 else 0) + (if c = true then 4 else 0) := by
  cases a <;> cases b <;> cases c <;> rfl

/-- The bytes of a line, written out (R178, R185). -/
theorem State.lineOutput_eq (s : State) (bd : Build) (i : Nat) (l : Line) : s.lineOutput bd i l =
    be 1 i ++ code16 l.primary ++ be 1 l.substitutes.length ++ code16 (l.substitutes.getD 0 0)
      ++ code16 (l.substitutes.getD 1 0) ++ code16 (l.substitutes.getD 2 0) ++ be 1 l.position ++ code16 l.activeItem
      ++ be 1 l.ordered ++ be 1 l.placed ++ be 1 l.pinned ++ be 1 (l.ordered - l.placed - l.pinned)
      ++ be 4 l.placedValue ++ be 4 l.placedWeight ++ be 4 (l.wait.value s.clock)
      ++ if advertised s.ctl.mode s.items bd l = true then
          [if l.exhausted = true then 7 else 6] ++ be 2 (scoreOf s.clock bd l)
        else [if l.exhausted = true then 1 else 0, 0, 0] := by
  rw [← flagByte_flags, State.lineOutput]
  cases advertised s.ctl.mode s.items bd l with
  | true => simp only [if_true, List.append_assoc]; rfl
  | false => simp only [Bool.false_eq_true, if_false, List.append_assoc]; rfl

section
variable {tx : List Byte} {n : Byte} {s : State} (hs : s.listens) (hm : s.ctl.mode ≠ .loading) (hb : carries tx [n])
include hs hm hb

theorem exec_readBay_badArg (h : 8 ≤ n.toNat) :
    exec (.readBay tx) s = .next (s.replied tx.length (bareReply .badArg)) := by
  refine congrArg Host.Outcome.next ((State.request_taken hs hb rfl hm).trans ?_)
  rw [readBayOwner, fieldAt_single, bayOf_of_ge h]
  exact State.begin_finish _ _ hs.2

theorem exec_readBay {b : BayNo} (h : b.val = n.toNat) :
    exec (.readBay tx) s = .next (s.replied tx.length (okReply (s.bayOutput b))) := by
  refine congrArg Host.Outcome.next ((State.request_taken hs hb rfl hm).trans ?_)
  rw [readBayOwner, fieldAt_single, bayOf_of_lt h]
  exact State.begin_finish _ _ hs.2

end

/-- Settles O13. -/
theorem readBayReportsTheBuild : Obligations.ReadBayReportsTheBuild := by
  refine ⟨rfl, fun tx n s hs hm hb => ⟨exec_readBay_badArg hs hm hb, fun b hbn => ⟨fun hnone => ?_, fun bd hbd => ?_⟩⟩⟩
  · rw [exec_readBay hs hm hb hbn, State.bayOutput, hnone, hbn, be_one_toNat]
    rfl
  · have hflags : flagByte bd.deadlineReported bd.lapse bd.chillExpiry.isSome
        = (if bd.deadlineReported = true then 1 else 0) + (if bd.lapse = true then 2 else 0)
          + (if bd.chillExpiry = none then 0 else 4) := by
      rw [flagByte_sum]
      cases bd.chillExpiry with
      | none => rfl
      | some e => rfl
    have hlines : (fun li : Line × Nat => s.lineOutput bd li.2 li.1) = _ :=
      funext fun li => s.lineOutput_eq bd li.2 li.1
    rw [exec_readBay hs hm hb hbn, State.bayOutput, hbd]
    dsimp only
    rw [State.buildOutput, hlines, hflags, hbn, be_one_toNat]
    rfl

/-! ## Read Peers -/

theorem State.entriesStored_eq (s : State) (p : Nat) : s.entriesStored p = s.peers.heard.countP fun h => h.peer == p :=
  (List.countP_eq_length_filter ..).symm

/-- Settles O15: the entries named are the peer's sorted by the ranking key. -/
theorem readPeersReportsTheRosterAndRankedEntries : Obligations.ReadPeersReportsTheRosterAndRankedEntries := by
  refine ⟨rfl, fun tx n s hs hm hb => ⟨fun hn => ?_, fun hn => ⟨s.namedEntries n.toNat, ?_, ?_, ?_⟩⟩⟩
  · refine congrArg Host.Outcome.next ((State.request_taken hs hb rfl hm).trans ?_)
    rw [readPeersOwner, fieldAt_single, if_pos hn]
    exact State.begin_finish _ _ hs.2
  · have hzero : n.toNat = 0 ↔ n = 0 := by rw [← BitVec.toNat_inj]; rfl
    simp only [State.namedEntries, hzero]
    split
    · exact .refl _
    · exact rankSort_perm _ _
  · rw [State.namedEntries]
    split
    · exact List.Pairwise.nil
    · exact rankSort_ranked _ _
  · refine (congrArg Host.Outcome.next ((State.request_taken hs hb rfl hm).trans ?_))
    rw [readPeersOwner, fieldAt_single, if_neg (by omega)]
    refine (State.begin_finish _ _ hs.2).trans ?_
    have hroster : (fun k => s.rosterBytes (k + 1)) = fun k =>
        if k + 1 = s.ctl.station then [3, 0, 0, 0, 0, 0, 0, 0, 0, 0, 0]
        else
          let r := s.peer (k + 1)
          [r.state.code, r.lastSequence.getD 0] ++ be 4 (r.lastHeard.getD 0) ++ be 2 r.heard ++ be 2 r.gaps
            ++ be 1 (s.peers.heard.countP fun h => h.peer == k + 1) := by
      funext k
      rw [State.rosterBytes, State.entriesStored_eq]
      rfl
    change s.replied tx.length (okReply (s.peersOutput n.toNat)) = _
    rw [State.peersOutput, hroster]
    rfl

/-! ## Events -/

section
variable {tx : List Byte} {s : State}

theorem State.begin_setPort_finish {f : BenchPort → BenchPort} (n : Nat) (r : Reply) (h : s.port.state = .idle)
    (hf : ((s.beginRequest n).setPort (f (s.beginRequest n).port)).finishRequest r
      = ((s.setPort (f s.port)).beginRequest n).finishRequest r) (hi : (f s.port).state = s.port.state) :
    ((s.beginRequest n).setPort (f (s.beginRequest n).port)).finishRequest r = (s.setPort (f s.port)).replied n r := by
  rw [hf]
  exact State.begin_finish n r (hi.trans h)

theorem exec_readEvents (hs : s.listens) (hb : carries tx []) (hm : s.ctl.mode ≠ .loading) :
    exec (.readEvents tx) s = .next ((s.setPort s.port.clearFlags).replied tx.length (okReply s.port.eventsOutput)) := by
  refine congrArg Host.Outcome.next ((State.request_taken hs hb rfl hm).trans ?_)
  exact State.begin_setPort_finish (f := BenchPort.clearFlags) _ _ hs.2 rfl rfl

theorem attnLevel_zero_flags (enables : BitVec 13) : attnLevel 0#13 enables = false := by
  simp [attnLevel]

/-- A mask of two bytes. -/
theorem fieldAt_two (hi lo : Byte) : fieldAt [hi, lo] 0 2 = hi.toNat * 256 + lo.toNat := by
  simp [fieldAt, ofBe]

theorem be_two_of_bytes (hi lo : Byte) : be 2 (hi.toNat * 256 + lo.toNat) = [hi, lo] := by
  have hhi := hi.isLt
  have hlo := lo.isLt
  have h1 : BitVec.ofNat 8 ((hi.toNat * 256 + lo.toNat) / 256) = hi := by
    apply BitVec.eq_of_toNat_eq
    rw [BitVec.toNat_ofNat]
    omega
  have h0 : BitVec.ofNat 8 (hi.toNat * 256 + lo.toNat) = lo := by
    apply BitVec.eq_of_toNat_eq
    rw [BitVec.toNat_ofNat]
    omega
  simp [be, h1, h0]

/-- What Set Event Enables does with a mask (R181). -/
theorem exec_setEventEnables {hi lo : Byte} (hs : s.listens) (hb : carries tx [hi, lo]) (hm : s.ctl.mode ≠ .loading) :
    exec (.setEventEnables tx) s = .next
      (if hi.toNat * 256 + lo.toNat < 8192 then
        (s.setPort (s.port.setEnables (BitVec.ofNat 13 (hi.toNat * 256 + lo.toNat)))).replied tx.length
          (okReply ([hi, lo] ++ be 2 s.port.flags.toNat))
      else s.replied tx.length (bareReply .badArg)) := by
  refine congrArg Host.Outcome.next ((State.request_taken hs hb rfl hm).trans ?_)
  rw [enablesOwner, fieldAt_two]
  dsimp only
  by_cases h : hi.toNat * 256 + lo.toNat < 8192
  · rw [if_neg (by omega), if_pos h]
    have hmask : (BitVec.ofNat 13 (hi.toNat * 256 + lo.toNat)).toNat = hi.toNat * 256 + lo.toNat := by
      rw [BitVec.toNat_ofNat]
      omega
    have hout : ((s.beginRequest tx.length).port.setEnables (BitVec.ofNat 13 (hi.toNat * 256 + lo.toNat))).enablesOutput
        = [hi, lo] ++ be 2 s.port.flags.toNat := by
      rw [BenchPort.enablesOutput]
      change be 2 (BitVec.ofNat 13 (hi.toNat * 256 + lo.toNat)).toNat ++ be 2 s.port.flags.toNat = _
      rw [hmask, be_two_of_bytes]
    change ((s.beginRequest tx.length).setPort _).finishRequest (Reply.ok _) = _
    rw [State.setPort_port, hout]
    exact State.begin_setPort_finish (f := fun p => p.setEnables (BitVec.ofNat 13 (hi.toNat * 256 + lo.toNat))) _ _ hs.2
      rfl rfl
  · rw [if_pos (by omega), if_neg h]
    exact State.begin_finish _ _ hs.2

end

/-! ## A flag stays set -/

theorem flagSet_logKeeps (f : EventFlag) : LogKeeps fun s => f.isSet s.port = true where
  ignored _ hs := hs
  begun _ hs := hs
  finished _ hs := hs
  logged h hs := by
    obtain ⟨-, -, hkeeps, -⟩ := h.port.onlyRaises
    exact hkeeps f hs
  clock _ hs := hs
  fetched {s} clocked hs := by
    unfold State.fetch
    split
    · exact hs
    · exact hs

theorem State.setNote_keepsFlag (s : State) (c : NoteCause) (f : EventFlag) (h : f.isSet s.port = true) :
    f.isSet (s.setNote c).port = true := by
  obtain ⟨-, -, hkeeps, -⟩ := BenchPort.setFlag_onlyRaises { s.port with cause := c } .settingsNote
  exact hkeeps f h

theorem State.endLoad_keepsFlag (s : State) (r : Settings × LoadOutcome) (f : EventFlag) (h : f.isSet s.port = true) :
    f.isSet (s.endLoad r).port = true := by
  unfold State.endLoad
  split
  · change f.isSet (s.loadOutcome r).port = true
    unfold State.loadOutcome
    dsimp only
    split
    · exact h
    · exact State.setNote_keepsFlag _ _ f h
    · exact State.setNote_keepsFlag _ _ f h
  · exact h

theorem enablesOwner_keepsFlag (block : List Byte) (s : State) (f : EventFlag) (h : f.isSet s.port = true) :
    f.isSet (enablesOwner block s).1.port = true := by
  unfold enablesOwner
  dsimp only
  split
  · exact h
  · exact h

/-- A flag once set stays set through every command but Read Events, a Restart and a hard reset (R180, R182). -/
theorem exec_keepsFlag {c : Instr} {f : EventFlag} {s t : State} (hread : ∀ tx, c ≠ .readEvents tx)
    (hrestart : ∀ straps tx, c ≠ .restart straps tx) (hreset : ∀ straps, c ≠ .hardReset straps)
    (h : f.isSet s.port = true) (he : exec c s = .next t) : f.isSet t.port = true := by
  have hkeeps := flagSet_logKeeps f
  have hload (r : Settings × LoadOutcome) : f.isSet (s.whileUp fun u => u.endLoad r).port = true :=
    State.whileUp_keeps (P := fun u => f.isSet u.port = true) (fun _ => s.endLoad_keepsFlag r f) h
  cases c with
  | readEvents tx => exact absurd rfl (hread tx)
  | restart straps tx => exact absurd rfl (hrestart straps tx)
  | hardReset straps => exact absurd rfl (hreset straps)
  | resetLow => cases he; exact h
  | setEventEnables tx =>
    cases he
    exact State.whileUp_keeps (P := fun u => f.isSet u.port = true)
      (fun _ => State.serve_keeps hkeeps.toPortKeeps fun block u _ _ => enablesOwner_keepsFlag block u f) h
  | clearDeviations tx =>
    cases he
    exact State.whileUp_keeps (P := fun u => f.isSet u.port = true)
      (fun _ => State.serve_keeps hkeeps.toPortKeeps fun _ _ _ _ hu => hu) h
  | settingsLoad record => cases he; exact hload _
  | settingsLoadTimeout => cases he; exact hload _
  | _ => exact hkeeps.exec rfl he h

theorem BenchPort.clearFlags_eq (p : BenchPort) : p.clearFlags = { p with flags := 0, cause := .none, attn := false } := by
  rw [BenchPort.clearFlags, BenchPort.evalAttn, attnLevel_zero_flags]
  rfl

theorem attnLevel_eq_decide (flags enables : BitVec 13) : attnLevel flags enables = decide (flags &&& enables ≠ 0#13) := by
  rw [attnLevel, Bool.eq_iff_iff, bne_iff_ne, decide_eq_true_iff]

/-- Settles O12: the two requests on their own, and the flag by what every other command keeps. -/
theorem readEventsClearsAndEnablesFollowTheMask : Obligations.ReadEventsClearsAndEnablesFollowTheMask := by
  refine ⟨rfl, fun s hs => ⟨fun tx hb => ⟨fun hm => ?_, fun hm => ?_⟩, fun tx hi lo hb hm => ?_⟩,
    fun c f s t hread hrestart hreset h he => exec_keepsFlag hread hrestart hreset h he⟩
  · exact congrArg Host.Outcome.next (State.request_loading (n := 0) hs hb rfl hm)
  · rw [exec_readEvents hs hb hm, BenchPort.clearFlags_eq]
    rfl
  · rw [exec_setEventEnables hs hb hm]
    dsimp only
    rw [BenchPort.setEnables, BenchPort.evalAttn, attnLevel_eq_decide]

/-! ## Restart -/

/-- Settles O5: the request's answer is put in the buffer, and then the part restarts. -/
theorem restartKeepsAndClears : Obligations.RestartKeepsAndClears := by
  intro straps tx s hs hm hb
  have hcheck : checkRequest (fixedLength 0) (s.ctl.mode == .loading) tx = .ok [] := by
    rw [checkRequest_carries _ _ hb]
    simp [fixedLength, hm]
  have hrequest : s.restartRequest straps tx
      = ((s.beginRequest tx.length).finishRequest (Reply.ok [])).restart straps := by
    simp [State.restartRequest, hs.2, hcheck]
  refine congrArg Host.Outcome.next ((State.whileUp_of_up _ hs.1).trans ?_)
  rw [hrequest, State.begin_finish _ _ hs.2, State.restart, BenchPort.clearFlags_eq]
  rfl

end Sys2Proof.Machine

/-! PROOF. The layouts read back (R55, R57 to R59, R96, R162, R184 to R186): numbers and codes from their bytes, the
records of the requests, the settings record, the tag read, and notice frames from bits and cells. -/

namespace Sys2Proof.Machine

/-! ## Numbers and codes -/

theorem foldl_be (v : Nat) : ∀ n acc : Nat,
    (be n v).foldl (fun acc (b : Byte) => acc * 256 + b.toNat) acc = acc * 256 ^ n + v % 256 ^ n
  | 0, acc => by simp [be, Nat.mod_one]
  | n + 1, acc => by
    have hmod : v % 256 ^ (n + 1) = v % 256 ^ n + 256 ^ n * (v / 256 ^ n % 256) := by rw [Nat.pow_succ, Nat.mod_mul]
    rw [be, List.foldl_cons, foldl_be v n, BitVec.toNat_ofNat, hmod]
    generalize v / 256 ^ n % 2 ^ 8 = high
    generalize v % 256 ^ n = low
    ring

/-- A number that fits its bytes is spelt by them (R183). -/
theorem ofBe_be {n v : Nat} (h : v < 256 ^ n) : ofBe (be n v) = v := by
  rw [ofBe, foldl_be, Nat.zero_mul, Nat.zero_add, Nat.mod_eq_of_lt h]

/-- A number read back from its place in a block (R183). -/
theorem fieldAt_be {n v k : Nat} {before after : List Byte} (hk : before.length = k) (h : v < 256 ^ n) :
    fieldAt (before ++ (be n v ++ after)) k n = v := by
  rw [fieldAt, List.drop_left' hk, List.take_left' (be_length n v), ofBe_be h]

/-- The two bytes of a code, high and low (R183). -/
theorem code16_eq (c : BitVec 16) : code16 c = [c.extractLsb' 8 8, c.extractLsb' 0 8] := by
  have hhigh : BitVec.ofNat 8 (c.toNat / 256) = c.extractLsb' 8 8 := by
    apply BitVec.eq_of_toNat_eq
    simp [BitVec.extractLsb'_toNat, Nat.shiftRight_eq_div_pow]
  have hlow : BitVec.ofNat 8 c.toNat = c.extractLsb' 0 8 := by
    apply BitVec.eq_of_toNat_eq
    simp [BitVec.extractLsb'_toNat]
  simp [code16, be, hhigh, hlow]

theorem code_bytes (c : BitVec 16) : c.extractLsb' 8 8 ++ c.extractLsb' 0 8 = c := by
  apply BitVec.eq_of_getLsbD_eq
  intro i hi
  rw [BitVec.getLsbD_append]
  by_cases h : i < 8
  · simp [h]
  · simp [h, show i - 8 < 8 by omega, show 8 + (i - 8) = i by omega]

/-- A one-byte number read back. -/
theorem toNat_ofNat_byte {v : Nat} (h : v < 256) : (BitVec.ofNat 8 v).toNat = v := by
  rw [BitVec.toNat_ofNat]
  exact Nat.mod_eq_of_lt h

theorem be_one (v : Nat) : be 1 v = [BitVec.ofNat 8 v] := by simp [be]

theorem be_two (v : Nat) : be 2 v = [BitVec.ofNat 8 (v / 256), BitVec.ofNat 8 v] := by simp [be]

/-! ## Load Items -/

theorem parseItems_bytes {r : RawItem} (h : r.fits) (rest : List Byte) :
    parseItems (r.bytes ++ rest) = r :: parseItems rest := by
  obtain ⟨hvalue, hweight⟩ := h
  have hv : ofBe [BitVec.ofNat 8 (r.value / 256), BitVec.ofNat 8 r.value] = r.value := by
    rw [← be_two, ofBe_be hvalue]
  have hw : ofBe [BitVec.ofNat 8 (r.weight / 256), BitVec.ofNat 8 r.weight] = r.weight := by
    rw [← be_two, ofBe_be hweight]
  rw [RawItem.bytes, code16_eq, be_two, be_two]
  simp only [List.cons_append, List.nil_append, parseItems, hv, hw, code_bytes]

/-- The records of Load Items are read back (R185). -/
theorem parseItems_flatMap : ∀ {rs : List RawItem}, (∀ r ∈ rs, r.fits) → parseItems (rs.flatMap RawItem.bytes) = rs
  | [], _ => rfl
  | r :: rs, h => by
    rw [List.flatMap_cons, parseItems_bytes (h r (by simp)), parseItems_flatMap fun x hx => h x (by simp [hx])]

/-! ## Open Build -/

theorem parseLines_bytes {p : LineParams} (ho : p.ordered < 256) (hc : p.substituteCount < 256) (rest : List Byte) :
    parseLines (p.bytes ++ rest) = p :: parseLines rest := by
  rw [LineParams.bytes, code16_eq, code16_eq, code16_eq, code16_eq, be_one, be_one]
  simp only [List.cons_append, List.nil_append, parseLines, toNat_ofNat_byte ho, toNat_ofNat_byte hc, code_bytes]

/-- The line entries of Open Build are read back (R185). -/
theorem parseLines_flatMap : ∀ {ps : List LineParams}, (∀ p ∈ ps, p.ordered < 256 ∧ p.substituteCount < 256) →
    parseLines (ps.flatMap LineParams.bytes) = ps
  | [], _ => rfl
  | p :: ps, h => by
    obtain ⟨ho, hc⟩ := h p (by simp)
    rw [List.flatMap_cons, parseLines_bytes ho hc, parseLines_flatMap fun x hx => h x (by simp [hx])]

theorem flatMap_length_const {α β : Type} {f : α → List β} {n : Nat} (hf : ∀ a, (f a).length = n) (xs : List α) :
    (xs.flatMap f).length = n * xs.length := by
  induction xs with
  | nil => rfl
  | cons x xs ih =>
    rw [List.flatMap_cons, List.length_append, hf, ih, List.length_cons]
    ring

section
variable {p : BuildParams}

theorem BuildParams.bytes_length (p : BuildParams) : p.bytes.length = 13 + 10 * p.lines.length := by
  simp only [BuildParams.bytes, List.length_append, be_length, flatMap_length_const LineParams.bytes_length]

theorem BuildParams.fits.orderRef_lt (p : BuildParams) : p.orderRef.toNat < 256 ^ 4 := p.orderRef.isLt

/-- The six numbers at the head of an Open Build block (R185). -/
theorem BuildParams.fits.fields (h : p.fits) :
    fieldAt p.bytes 0 1 = p.bay ∧ fieldAt p.bytes 1 4 = p.orderRef.toNat ∧ fieldAt p.bytes 5 2 = p.deadlineSeconds
      ∧ fieldAt p.bytes 7 3 = p.floor ∧ fieldAt p.bytes 10 2 = p.ceiling ∧ fieldAt p.bytes 12 1 = p.lines.length := by
  obtain ⟨hbay, hdeadline, hfloor, hceiling, hlines, -⟩ := h
  have href := BuildParams.fits.orderRef_lt p
  simp only [BuildParams.bytes, List.append_assoc]
  refine ⟨fieldAt_be (before := []) rfl hbay, fieldAt_be (before := be 1 p.bay) (by simp) href, ?_, ?_, ?_, ?_⟩
  · rw [← List.append_assoc]
    exact fieldAt_be (by simp) hdeadline
  · rw [← List.append_assoc, ← List.append_assoc]
    exact fieldAt_be (by simp) hfloor
  · rw [← List.append_assoc, ← List.append_assoc, ← List.append_assoc]
    exact fieldAt_be (by simp) hceiling
  · rw [← List.append_assoc, ← List.append_assoc, ← List.append_assoc, ← List.append_assoc]
    exact fieldAt_be (by simp) (by omega)

/-- The parameters of Open Build are read back (R185). -/
theorem BuildParams.fits.parseBuild (h : p.fits) : parseBuild p.bytes = p := by
  obtain ⟨hbay, href, hdeadline, hfloor, hceiling, -⟩ := h.fields
  have hlines : parseLines (p.bytes.drop 13) = p.lines := by
    rw [BuildParams.bytes, List.drop_left' (by simp)]
    obtain ⟨-, -, -, -, -, hfit⟩ := h
    exact parseLines_flatMap hfit
  rw [Machine.parseBuild, hbay, href, hdeadline, hfloor, hceiling, hlines, BitVec.ofNat_toNat, BitVec.setWidth_eq]

theorem BuildParams.fits.openBuildLength (h : p.fits) : openBuildLength p.bytes = true := by
  obtain ⟨-, -, -, -, -, hcount⟩ := h.fields
  rw [Machine.openBuildLength, hcount, p.bytes_length]
  simp

end

/-! ## Settings -/

/-- The twelve bytes of settings in their ranges are read back (R162). -/
theorem Settings.ranged.parseSettings {g : Settings} (h : g.ranged) (after : List Byte) :
    parseSettings (g.bytes ++ after) = g := by
  unfold Settings.ranged at h
  have hfields : fieldAt (g.bytes ++ after) 0 1 = g.laneCapacity ∧ fieldAt (g.bytes ++ after) 1 1 = g.drawLimit
      ∧ fieldAt (g.bytes ++ after) 2 1 = g.refresh ∧ fieldAt (g.bytes ++ after) 3 1 = g.silenceMultiplier
      ∧ fieldAt (g.bytes ++ after) 4 2 = g.substituteWait ∧ fieldAt (g.bytes ++ after) 6 2 = g.chillWindow
      ∧ fieldAt (g.bytes ++ after) 8 1 = g.confirmLimit ∧ fieldAt (g.bytes ++ after) 9 2 = g.dwellLimit
      ∧ fieldAt (g.bytes ++ after) 11 1 = g.errorThreshold := by
    simp only [Settings.bytes, List.append_assoc]
    refine ⟨fieldAt_be (before := []) rfl (by omega), fieldAt_be (before := be 1 g.laneCapacity) (by simp) (by omega),
      ?_, ?_, ?_, ?_, ?_, ?_, ?_⟩
    · rw [← List.append_assoc]
      exact fieldAt_be (by simp) (by omega)
    · rw [← List.append_assoc, ← List.append_assoc]
      exact fieldAt_be (by simp) (by omega)
    · rw [← List.append_assoc, ← List.append_assoc, ← List.append_assoc]
      exact fieldAt_be (by simp) (by omega)
    · rw [← List.append_assoc, ← List.append_assoc, ← List.append_assoc, ← List.append_assoc]
      exact fieldAt_be (by simp) (by omega)
    · rw [← List.append_assoc, ← List.append_assoc, ← List.append_assoc, ← List.append_assoc, ← List.append_assoc]
      exact fieldAt_be (by simp) (by omega)
    · rw [← List.append_assoc, ← List.append_assoc, ← List.append_assoc, ← List.append_assoc, ← List.append_assoc,
        ← List.append_assoc]
      exact fieldAt_be (by simp) (by omega)
    · rw [← List.append_assoc, ← List.append_assoc, ← List.append_assoc, ← List.append_assoc, ← List.append_assoc,
        ← List.append_assoc, ← List.append_assoc]
      exact fieldAt_be (by simp) (by omega)
  obtain ⟨h0, h1, h2, h3, h4, h6, h8, h9, h11⟩ := hfields
  rw [Machine.parseSettings, h0, h1, h2, h3, h4, h6, h8, h9, h11]

theorem recordHead_eq (g : Settings) : recordHead g = [0x48, 0x42, 1] ++ g.bytes := rfl

theorem recordHead_length (g : Settings) : (recordHead g).length = 15 := by simp [recordHead_eq]

theorem settingsRecord_length (g : Settings) : (settingsRecord g).length = 16 := by
  simp [settingsRecord, recordHead_length]

/-- The record of settings in their ranges is read back as it was written (R162, R163). -/
theorem formSettings_settingsRecord {g : Settings} (h : g.ranged) : formSettings (settingsRecord g) = (g, .loaded) := by
  have hhead : (settingsRecord g).take 15 = recordHead g := List.take_left' (recordHead_length g)
  have hsum : (settingsRecord g).getD 15 0 = sumBytes (recordHead g) := by
    rw [settingsRecord, List.getD_eq_getElem?_getD, List.getElem?_append_right (recordHead_length g).le,
      recordHead_length, Nat.sub_self, List.getElem?_cons_zero, Option.getD_some]
  have hgood : recordGood (settingsRecord g) = true := by
    have hsplit : settingsRecord g = be 2 0x4842 ++ (be 1 1 ++ (g.bytes ++ [sumBytes (recordHead g)])) := by
      have hone : be 1 1 = [1] := rfl
      rw [settingsRecord, recordHead, hone, List.append_assoc, List.append_assoc]
    have hsignature : fieldAt (settingsRecord g) 0 2 = 0x4842 := by
      rw [hsplit]
      exact fieldAt_be (before := []) rfl (by decide)
    have hversion : fieldAt (settingsRecord g) 2 1 = 1 := by
      rw [hsplit]
      exact fieldAt_be (be_length 2 _) (by decide)
    simp only [recordGood, hhead, hsum, hsignature, hversion, beq_self_eq_true, Bool.and_self]
  have hread : parseSettings ((settingsRecord g).drop 3) = g := by
    have hdrop : (settingsRecord g).drop 3 = g.bytes ++ [sumBytes (recordHead g)] := by
      rw [settingsRecord, recordHead_eq, List.append_assoc]
      rfl
    rw [hdrop, h.parseSettings]
  rw [formSettings, if_pos hgood, hread, if_pos (Settings.inRange_iff.mpr h)]

/-! ## The tag read -/

theorem parseTag_bytes {t : Tag} (ht : t.tote ≠ 0) (hi : t.item ≠ 0) : parseTag t.bytes = some t := by
  have hbytes : t.bytes = [0xA5, t.tote.extractLsb' 8 8, t.tote.extractLsb' 0 8, t.item.extractLsb' 8 8,
      t.item.extractLsb' 0 8, t.serial, t.fill,
      xorBytes [t.tote.extractLsb' 8 8, t.tote.extractLsb' 0 8, t.item.extractLsb' 8 8, t.item.extractLsb' 0 8,
        t.serial, t.fill]] := by
    rw [Tag.bytes, code16_eq, code16_eq]
    simp only [List.cons_append, List.nil_append]
  generalize hcheck : xorBytes [t.tote.extractLsb' 8 8, t.tote.extractLsb' 0 8, t.item.extractLsb' 8 8,
    t.item.extractLsb' 0 8, t.serial, t.fill] = check at hbytes
  rw [hbytes, parseTag]
  simp only [code_bytes]
  exact if_pos ⟨trivial, hcheck.symm, ht, hi⟩

/-- Settles O51, block by block. -/
theorem blocksAndRecordsReadBackAsWritten : Obligations.BlocksAndRecordsReadBackAsWritten := by
  refine ⟨fun p hp => ⟨hp.openBuildLength, hp.parseBuild⟩, fun rs hrs => parseItems_flatMap hrs, fun g hg => ?_,
    fun t ht hi => parseTag_bytes ht hi⟩
  exact ⟨settingsRecord_length g, formSettings_settingsRecord (Settings.inRange_iff.mp hg)⟩

/-! ## Notice frames -/

theorem parseEntries_entryBytes (e : DemandEntry) (rest : List Byte) :
    parseEntries (entryBytes e ++ rest) = e :: parseEntries rest := by
  have hbay : (e.bay ++ e.line).extractLsb' 4 4 = e.bay := by
    apply BitVec.eq_of_getLsbD_eq
    intro i hi
    rw [BitVec.getLsbD_extractLsb', BitVec.getLsbD_append]
    simp [hi]
  have hline : (e.bay ++ e.line).extractLsb' 0 4 = e.line := by
    apply BitVec.eq_of_getLsbD_eq
    intro i hi
    rw [BitVec.getLsbD_extractLsb', BitVec.getLsbD_append]
    simp [hi]
  rw [entryBytes, code16_eq, code16_eq]
  simp only [List.cons_append, List.nil_append, parseEntries, hbay, hline, code_bytes]

theorem parseEntries_flatMap : ∀ es : List DemandEntry, parseEntries (es.flatMap entryBytes) = es
  | [] => rfl
  | e :: es => by rw [List.flatMap_cons, parseEntries_entryBytes, parseEntries_flatMap es]

/-- A payload is read back from its kind code and bytes (R59, R184). -/
theorem parsePayload_bytes {p : Payload} (h : p.wellFormed = true) : parsePayload p.kindCode p.bytes = some p := by
  cases p with
  | join capacity bays revision => rfl
  | demand entries =>
    have hle : entries.length ≤ 16 := of_decide_eq_true h
    have hcount : (BitVec.ofNat 8 entries.length).toNat = entries.length := toNat_ofNat_byte (by omega)
    have hlength := flatMap_length_const entryBytes_length entries
    change parsePayload 0x02 (BitVec.ofNat 8 entries.length :: entries.flatMap entryBytes) = _
    exact (if_pos ⟨by rw [hcount]; exact hle, by rw [hcount, hlength]⟩).trans (by rw [parseEntries_flatMap])
  | draw tote serial item units remaining =>
    change parsePayload 0x03 (code16 tote ++ serial :: code16 item ++ [units, remaining]) = _
    rw [code16_eq, code16_eq]
    change some (Payload.draw (_ ++ _) serial (_ ++ _) units remaining) = _
    rw [code_bytes, code_bytes]
  | tally tote serial item remaining =>
    change parsePayload 0x04 (code16 tote ++ serial :: code16 item ++ [remaining]) = _
    rw [code16_eq, code16_eq]
    change some (Payload.tally (_ ++ _) serial (_ ++ _) remaining) = _
    rw [code_bytes, code_bytes]

theorem Payload.bytes_length_le {p : Payload} (h : p.wellFormed = true) : p.bytes.length ≤ 97 := by
  cases p with
  | join capacity bays revision => simp [Payload.bytes]
  | demand entries =>
    have hle : entries.length ≤ 16 := of_decide_eq_true h
    rw [Payload.bytes, List.length_cons, flatMap_length_const entryBytes_length]
    omega
  | draw tote serial item units remaining => simp [Payload.bytes]
  | tally tote serial item remaining => simp [Payload.bytes]

/-- Header and payload of a good sender's notice are read back (R57, R68). -/
theorem classifyCovered_coveredBytes {sender sequence : Byte} {p : Payload} (hs : goodSender sender = true)
    (hp : p.wellFormed = true) : classifyCovered (coveredBytes sender sequence p) = .good sender sequence p := by
  have hle := p.bytes_length_le hp
  have hlength : (BitVec.ofNat 8 p.bytes.length).toNat = p.bytes.length := toNat_ofNat_byte (by omega)
  rw [coveredBytes, classifyCovered, if_pos ⟨hs, hlength.symm⟩, parsePayload_bytes hp]

/-- The bytes after the start pattern are read back (R58, R68). -/
theorem classifyBytes_coveredBytes {sender sequence : Byte} {p : Payload} (hs : goodSender sender = true)
    (hp : p.wellFormed = true) :
    classifyBytes (coveredBytes sender sequence p ++ code16 (crc16 (coveredBytes sender sequence p)))
      = .good sender sequence p := by
  have hlong : 4 ≤ (coveredBytes sender sequence p).length := by simp [coveredBytes]
  have hcut : (coveredBytes sender sequence p ++ code16 (crc16 (coveredBytes sender sequence p))).length - 2
      = (coveredBytes sender sequence p).length := by simp
  rw [classifyBytes, hcut, List.take_left, List.drop_left, if_pos ⟨by simp; omega, rfl⟩,
    classifyCovered_coveredBytes hs hp]

theorem bytesOfBits_short {bits : List Bool} (h : bits.length < 8) : bytesOfBits bits = [] := by
  unfold bytesOfBits
  split
  · simp at h
    omega
  · rfl

theorem bytesOfBits_bitsOfByte (b : Byte) (rest : List Bool) :
    bytesOfBits (bitsOfByte b ++ rest) = b :: bytesOfBits rest := by
  simp only [bitsOfByte, List.cons_append, List.nil_append, bytesOfBits, byteOfBits_bitsOfByte]

/-- Whole bytes are read back from their bits, and what falls short of a byte is ignored (R55, R68). -/
theorem bytesOfBits_bitsOfBytes {tail : List Bool} (h : tail.length < 8) : ∀ bs : List Byte,
    bytesOfBits (bitsOfBytes bs ++ tail) = bs
  | [] => bytesOfBits_short h
  | b :: bs => by
    have hbits : bitsOfBytes (b :: bs) ++ tail = bitsOfByte b ++ (bitsOfBytes bs ++ tail) := by
      rw [← List.append_assoc]
      rfl
    rw [hbits, bytesOfBits_bitsOfByte, bytesOfBits_bitsOfBytes h bs]

/-- A good sender's frame is read back from its bits (R57, R68). -/
theorem classify_frameBits {sender sequence : Byte} {p : Payload} {tail : List Bool} (hs : goodSender sender = true)
    (hp : p.wellFormed = true) (ht : tail.length < 8) :
    classify (frameBits sender sequence p ++ tail) = .good sender sequence p := by
  have hframe : frameBits sender sequence p ++ tail = bitsOfBytes startPattern
      ++ (bitsOfBytes (coveredBytes sender sequence p ++ code16 (crc16 (coveredBytes sender sequence p))) ++ tail) := by
    rw [frameBits, frameBytes, List.append_assoc, bitsOfBytes_append, List.append_assoc]
  have hstart : (bitsOfBytes startPattern).length = 16 := rfl
  have hlong : 48 ≤ (frameBits sender sequence p ++ tail).length := by
    rw [hframe]
    simp [startPattern, coveredBytes]
    omega
  rw [classify, if_pos ⟨by rw [hframe, List.take_left' hstart], hlong⟩, hframe, List.drop_left' hstart,
    bytesOfBits_bitsOfBytes ht, classifyBytes_coveredBytes hs hp]

theorem decodeCells_of_endsCells {rest : List Bool} (h : endsCells rest) : decodeCells rest = [] := by
  obtain hshort | ⟨x, more, rfl⟩ := h
  · match rest, hshort with
    | [], _ => rfl
    | [_], _ => rfl
  · simp [decodeCells]

/-- Bits are read back from their cells, up to what ends them (R55, R68). -/
theorem decodeCells_flatMap {rest : List Bool} (bits : List Bool) (h : endsCells rest) :
    decodeCells (bits.flatMap (fun b => [!b, b]) ++ rest) = bits := by
  have hcells := decodeCells_cellLevels bits rest
  rw [decodeCells_of_endsCells h, List.append_nil] at hcells
  exact hcells

/-- Settles O50: the bits of the frame through its bytes, and the cells through the bits. -/
theorem noticeFramesReadBackAsSent : Obligations.NoticeFramesReadBackAsSent := by
  intro sender sequence p tail hs hp ht
  refine ⟨classify_frameBits hs hp ht, fun rest hrest => ?_⟩
  rw [decodeCells_flatMap _ hrest, classify_frameBits hs hp ht]

end Sys2Proof.Machine

/-! PROOF. The settings load with the entry to SETTLING (R162 to R164), and the write of the settings in two accesses
(R170). -/

namespace Sys2Proof.Machine

/-! ## Sums -/

theorem foldl_add_bytes (acc : Byte) (bs : List Byte) :
    bs.foldl (· + ·) acc = acc + BitVec.ofNat 8 (bs.map (·.toNat)).sum := by
  induction bs generalizing acc with
  | nil => simp
  | cons b bs ih => rw [List.foldl_cons, ih, List.map_cons, List.sum_cons, BitVec.ofNat_add, BitVec.ofNat_toNat,
      BitVec.setWidth_eq, BitVec.add_assoc]

/-- The sum modulo 256 of a record (R162, R186). -/
theorem sumBytes_eq (bs : List Byte) : sumBytes bs = BitVec.ofNat 8 (bs.map (·.toNat)).sum := by
  rw [sumBytes, foldl_add_bytes]
  exact BitVec.zero_add _

/-! ## The settings load -/

/-- Signature, version and sum, as numbers (R163). -/
theorem recordGood_iff {bs : List Byte} (h : bs.length = 16) : recordGood bs = true ↔
    fieldAt bs 0 2 = 0x4842 ∧ fieldAt bs 2 1 = 1 ∧ ((bs.take 15).map (·.toNat)).sum % 256 = fieldAt bs 15 1 := by
  have hsum : sumBytes (bs.take 15) = bs.getD 15 0 ↔ ((bs.take 15).map (·.toNat)).sum % 256 = fieldAt bs 15 1 := by
    rw [fieldAt_one (by omega), sumBytes_eq, ← BitVec.toNat_inj, BitVec.toNat_ofNat]
  simp only [recordGood, Bool.and_eq_true, beq_iff_eq, hsum, and_assoc]

theorem fieldAt_drop (bs : List Byte) (k offset n : Nat) : fieldAt (bs.drop k) offset n = fieldAt bs (k + offset) n := by
  rw [fieldAt, List.drop_drop, fieldAt]

theorem parseSettings_drop (bs : List Byte) : parseSettings (bs.drop 3) =
    { laneCapacity := fieldAt bs 3 1, drawLimit := fieldAt bs 4 1, refresh := fieldAt bs 5 1
      silenceMultiplier := fieldAt bs 6 1, substituteWait := fieldAt bs 7 2, chillWindow := fieldAt bs 9 2
      confirmLimit := fieldAt bs 11 1, dwellLimit := fieldAt bs 12 2, errorThreshold := fieldAt bs 14 1 } := by
  simp only [parseSettings, fieldAt_drop]

/-- A port after SETTINGS_NOTE is set with its cause (R163, R180, R181). -/
def BenchPort.noted (p : BenchPort) (c : NoteCause) : BenchPort :=
  { p with
    cause := c, flags := p.flags ||| 0x200#13
    attn := decide ((p.flags ||| 0x200#13) &&& p.enables ≠ 0#13) }

theorem State.setNote_eq (s : State) (c : NoteCause) : s.setNote c = s.setPort (s.port.noted c) := by
  have hmask : EventFlag.settingsNote.mask = 0x200#13 := rfl
  rw [State.setNote, BenchPort.setFlag, BenchPort.evalAttn, attnLevel_eq_decide, hmask, BenchPort.noted]

theorem State.endLoad_of_loading {s : State} (hm : s.ctl.mode = .loading) (hl : s.loader.state = .loading)
    (r : Settings × LoadOutcome) : s.endLoad r = (s.loadOutcome r).enterSettling := if_pos ⟨hl, hm⟩

/-- The entry to SETTLING after a load that only loads (R164). -/
theorem State.enterSettling_eq (s : State) (g : Settings) (o : LoadOutcome) (port : BenchPort) :
    ((s.setLoader { s.loader with active := g, outcome := o }).setPort port).enterSettling =
      { s with
        ctl := { s.ctl with mode := .settling, settleExpiry := some (min (s.clock + 2 * g.refresh * 10) 4294967295) }
        loader := { active := g, outcome := o, state := .idle, bus := .released }
        li :=
          { s.li with
            queue := s.li.queue
              ++ [{ payload := some (.join (BitVec.ofNat 8 g.laneCapacity) 8 1), sequence := none, attempts := 0 }]
            idleSeen := false
            rng := { station := s.ctl.station, clock := s.clock, draws := 0 } }
        peers := { s.peers with refreshExpiry := some (min (s.clock + g.refresh * 10) 4294967295) }
        totes := { s.totes with decoder := .waiting }
        port := port } := rfl

/-- Settles O7: how the load forms the settings, and one entry to SETTLING for each outcome. -/
theorem settingsLoadFormsTheSettingsAndSettles : Obligations.SettingsLoadFormsTheSettingsAndSettles := by
  intro s hup hm hl settled noted defaults
  have hend (r : Settings × LoadOutcome) : s.whileUp (fun t => t.endLoad r) = (s.loadOutcome r).enterSettling := by
    rw [State.whileUp_of_up _ hup, State.endLoad_of_loading hm hl]
  have hnoted (g : Settings) (o : LoadOutcome) (c : NoteCause) :
      ((s.setLoader { s.loader with active := g, outcome := o }).setNote c).enterSettling = settled g o (noted c) := by
    rw [State.setNote_eq, State.setLoader_port]
    exact State.enterSettling_eq s g o (s.port.noted c)
  have hdefaulted (g : Settings) :
      (s.loadOutcome (g, .defaulted)).enterSettling = settled g .defaulted (noted .defaulted) := hnoted g _ _
  have hclamped (g : Settings) : (s.loadOutcome (g, .clamped)).enterSettling = settled g .clamped (noted .clamped) :=
    hnoted g _ _
  have hloaded (g : Settings) : (s.loadOutcome (g, .loaded)).enterSettling = settled g .loaded s.port := by
    have hsame : s.loadOutcome (g, .loaded)
        = (s.setLoader { s.loader with active := g, outcome := .loaded }).setPort s.port := rfl
    rw [hsame]
    exact State.enterSettling_eq s g .loaded s.port
  refine ⟨congrArg Host.Outcome.next ((hend _).trans (hdefaulted defaults)), fun record => ?_⟩
  intro r nearest read clamped
  refine congrArg Host.Outcome.next ((hend (formSettings r)).trans ?_)
  have hgood := recordGood_iff (bs := r) (by simp [r])
  have hread : parseSettings (r.drop 3) = read := parseSettings_drop r
  have hrange : read.inRange = true ↔ read = clamped := by
    rw [Settings.inRange, beq_iff_eq]
    exact eq_comm
  rw [formSettings]
  simp only [hgood, hread, hrange]
  split_ifs
  · exact hloaded read
  · exact hclamped _
  · exact hdefaulted defaults

/-! ## The write of the settings -/

section
variable {tx block : List Byte} {s : State}

theorem exec_writeSettings (hs : s.listens) (hm : s.ctl.mode ≠ .loading) (hb : carries tx block)
    (hn : block.length = 12) : exec (.writeSettings tx) s = .next
      (if (parseSettings block).inRange = false then s.replied tx.length (bareReply .badArg)
      else if s.loader.state ≠ .idle then s.replied tx.length (bareReply .busy)
      else (s.startWrite (parseSettings block)).replied tx.length (bareReply .accepted)) := by
  refine congrArg Host.Outcome.next ((State.request_taken hs hb hn hm).trans ?_)
  rw [writeSettingsOwner, State.beginRequest_loader]
  split_ifs
  · exact State.begin_finish _ _ hs.2
  · exact State.begin_finish _ _ hs.2
  · exact State.begin_finish (s := s.startWrite (parseSettings block)) _ _ hs.2

end

/-- The two accesses hold the record whole (R170). -/
theorem settingsRecord_take_drop (g : Settings) :
    (settingsRecord g).take 8 = ([0x48, 0x42, 1] ++ g.bytes).take 8
      ∧ (settingsRecord g).drop 8 = ([0x48, 0x42, 1] ++ g.bytes).drop 8
        ++ [BitVec.ofNat 8 ((([0x48, 0x42, 1] ++ g.bytes).map fun x : Byte => x.toNat).sum)] := by
  have hlong : 8 ≤ ([0x48, 0x42, 1] ++ g.bytes).length := by simp
  rw [settingsRecord, sumBytes_eq, recordHead_eq]
  exact ⟨List.take_append_of_le_length hlong, List.drop_append_of_le_length hlong⟩

theorem State.startWrite_eq (s : State) (g : Settings) : s.startWrite g = s.setLoader
    { s.loader with
      state := .writing
      bus := .writing { device := 0x50, address := 0x00, data := ([0x48, 0x42, 1] ++ g.bytes).take 8 }
        (some { device := 0x50, address := 0x08
                data := ([0x48, 0x42, 1] ++ g.bytes).drop 8
                  ++ [BitVec.ofNat 8 ((([0x48, 0x42, 1] ++ g.bytes).map fun x : Byte => x.toNat).sum)] }) } := by
  obtain ⟨htake, hdrop⟩ := settingsRecord_take_drop g
  rw [State.startWrite, firstAccess, secondAccess, htake, hdrop]

/-- Settles O30: the request's two checks and its start, and what ends each access. -/
theorem writeSettingsWritesTheRecordInTwoAccesses : Obligations.WriteSettingsWritesTheRecordInTwoAccesses := by
  intro s hup inRange
  have hiff (g : Settings) : g.inRange = true ↔ inRange g := Settings.inRange_iff
  refine ⟨fun tx g hidle hm hb => ⟨fun hg hbusy => ?_, fun hg hfree => ⟨_, rfl, ?_⟩⟩,
    fun tx block hidle hm hb hn hg => ?_, fun a b hbus => ?_, fun a hbus => ?_, fun a rest hbus => ?_⟩
  · have hread : parseSettings g.bytes = g := by
      simpa using Settings.ranged.parseSettings (Settings.inRange_iff.mp ((hiff g).mpr hg)) []
    rw [exec_writeSettings ⟨hup, hidle⟩ hm hb g.bytes_length, hread, (hiff g).mpr hg, if_neg (by simp), if_pos hbusy]
  · have hread : parseSettings g.bytes = g := by
      simpa using Settings.ranged.parseSettings (Settings.inRange_iff.mp ((hiff g).mpr hg)) []
    rw [exec_writeSettings ⟨hup, hidle⟩ hm hb g.bytes_length, hread, (hiff g).mpr hg, if_neg (by simp),
      if_neg (by simp [hfree]), State.startWrite_eq]
  · have hbad : (parseSettings block).inRange = false := by
      rw [Bool.eq_false_iff, Ne, hiff]
      exact hg
    rw [exec_writeSettings ⟨hup, hidle⟩ hm hb hn, if_pos hbad]
  · refine congrArg Host.Outcome.next ((State.whileUp_of_up _ hup).trans ?_)
    rw [State.endWriteAccess, hbus]
  · refine congrArg Host.Outcome.next ((State.whileUp_of_up _ hup).trans ?_)
    rw [State.endWriteAccess, hbus]
  · refine congrArg Host.Outcome.next ((State.whileUp_of_up _ hup).trans ?_)
    rw [State.timeoutWriteAccess, hbus]

end Sys2Proof.Machine

/-! PROOF. The outgoing queue and the transmitter (R61 to R67, R74, R87, R88, R90, R91): what is offered and what is
sent. -/

namespace Sys2Proof.Machine

/-! ## Joining the queue -/

theorem joinQueue_open {q : List Notice} (h : q.length < 12) (p : Payload) :
    joinQueue q p = some (q ++ [Notice.fresh (some p)]) := if_pos h

theorem joinQueue_marker {q : List Notice} (hfull : ¬ q.length < 12) (hm : q.any Notice.isMarker = true) (p : Payload) :
    joinQueue q p = some (q.eraseP Notice.isMarker ++ [Notice.fresh (some p)]) := (if_neg hfull).trans (if_pos hm)

theorem joinQueue_full {q : List Notice} (hfull : ¬ q.length < 12) (hm : ¬ q.any Notice.isMarker = true) (p : Payload) :
    joinQueue q p = none := (if_neg hfull).trans (if_neg hm)

section
variable {s : State} {p : Payload}

theorem State.offerTally_of_muted (hm : s.ctl.mode = .muted) : s.offerTally p = s.countLine (·.addDropped 1) :=
  if_pos hm

theorem State.offerDraw_of_muted (hm : s.ctl.mode = .muted) : s.offerDraw p = none := if_pos hm

/-- An offered notice that finds a place (R61). -/
theorem State.offers_of_join {q : List Notice} (hm : s.ctl.mode ≠ .muted) (hq : joinQueue s.li.queue p = some q) :
    s.offerTally p = s.setQueue q ∧ s.offerDraw p = some (s.setQueue q) := by
  rw [State.offerTally, if_neg hm, State.offerDraw, if_neg hm, hq]
  exact ⟨rfl, rfl⟩

/-- An offered notice that finds none (R61). -/
theorem State.offers_of_full (hm : s.ctl.mode ≠ .muted) (hq : joinQueue s.li.queue p = none) :
    s.offerTally p = (s.countLine (·.addDropped 1)).setFlag .noticeLost ∧ s.offerDraw p = none := by
  rw [State.offerTally, if_neg hm, State.offerDraw, if_neg hm, hq]
  exact ⟨rfl, rfl⟩

end

/-- The change check's comparison (R91). -/
theorem demandDiffers_iff (fresh lastSent : List Wanted) : demandDiffers fresh lastSent = true ↔
    (∃ x ∈ lastSent, x ∉ fresh)
      ∨ (lastSent.length < 16 ∧ ∃ w ∈ fresh, ∀ x ∈ lastSent, ¬ (x.bay = w.bay ∧ x.line = w.line)) := by
  simp only [demandDiffers, demandPlaces, Bool.or_eq_true, Bool.and_eq_true, List.any_eq_true, List.all_eq_true,
    Bool.not_eq_true', Bool.and_eq_false_iff, beq_eq_false_iff_ne, List.contains_eq_mem, decide_eq_false_iff_not,
    not_and_or, ne_eq]
  exact or_congr Iff.rfl (and_congr decide_eq_true_iff Iff.rfl)

/-- Settles O39: an open place, the marker's place, or none. -/
theorem offersJoinTheQueueAsItsRulesSay : Obligations.OffersJoinTheQueueAsItsRulesSay := by
  intro s isMarker joined dropped full waits bare
  have hopen : ¬ full ↔ s.li.queue.length < 12 := not_le
  have hwaits : waits ↔ s.li.queue.any Notice.isMarker = true := List.any_eq_true.symm
  refine ⟨fun p => ⟨fun hm => ⟨State.offerTally_of_muted hm, State.offerDraw_of_muted hm⟩,
    fun hm => ⟨fun hf => State.offers_of_join hm (joinQueue_open (hopen.mp hf) p), fun hf hw => ?_, fun hf hw => ?_⟩⟩,
    ?_, ?_⟩
  · exact State.offers_of_join hm (joinQueue_marker (fun h => hopen.mpr h hf) (hwaits.mp hw) p)
  · exact State.offers_of_full hm (joinQueue_full (fun h => hopen.mpr h hf) (fun h => hw (hwaits.mpr h)) p)
  · rw [State.offerMarker]
    refine if_congr ?_ rfl rfl
    rw [hopen, hwaits, Bool.not_eq_true]
    rfl
  · intro fresh differs
    have hd : demandDiffers s.freshSet s.peers.lastSent = true ↔ differs := demandDiffers_iff _ _
    refine ⟨fun h => if_neg fun ⟨hl, hm, hdiff⟩ => ?_, fun hl hm hdiff => if_pos ⟨hl, hm, hd.mpr hdiff⟩⟩
    obtain h | h | h := h
    · exact hl h
    · exact hm h
    · exact h (hd.mp hdiff)

/-! ## An attempt -/

/-- Settles O40, along all that ATTEMPT can do. -/
theorem attemptSendsTheHeadNotice : Obligations.AttemptSendsTheHeadNotice := by
  intro s hup
  have hexec (lineIdle : Bool) : exec (.attempt lineIdle) s = .next (s.attempt lineIdle) :=
    congrArg Host.Outcome.next (State.whileUp_of_up _ hup)
  refine ⟨fun lineIdle h => ?_, fun hm h => ?_, ?_⟩
  · rw [hexec, State.attempt, if_pos h]
  · rw [hexec]
    obtain ⟨hbusy, -⟩ | ⟨-, -, ⟨-, he⟩ | ⟨n, rest, hu, hp, hq, -⟩⟩ := s.attempt_cases true
    · exact absurd hbusy (by simp [hm])
    · rw [he]
      rfl
    · exact absurd h (by simp [hu, hp, hq])
  · intro n rest hm hu hp hq sent
    have hattempt : exec (.attempt true) s = .next
        (if n.attempts = 0 then s.seeIdle.firstAttempt n rest else s.seeIdle.laterAttempt n rest) := by
      rw [hexec]
      obtain ⟨hbusy, -⟩ | ⟨-, -, ⟨hnone, -⟩ | ⟨n', rest', -, -, hq', he⟩⟩ := s.attempt_cases true
      · exact absurd hbusy (by simp [hm])
      · exact absurd hnone (by simp [hu, hp, hq])
      · obtain ⟨rfl, rfl⟩ := List.cons.inj (hq.symm.trans hq')
        rw [he]
    refine ⟨fun p ha hpay => ?_, fun ha hpay => ?_, fun p sequence ha hpay hsequence => ?_⟩
    · rw [hattempt, if_pos ha, State.firstAttempt, State.payloadNow, hpay]
      rfl
    · refine ⟨_, rankSort_perm (OwnLine.key s.ctl.station s.clock) s.advertisedLines, rankSort_ranked _ _, ?_⟩
      rw [hattempt, if_pos ha, State.firstAttempt, State.payloadNow, hpay]
      rfl
    · rw [hattempt, if_neg (by omega), State.laterAttempt, State.payloadNow, hpay, hsequence]
      obtain ⟨payload, number, attempts⟩ := n
      cases hpay
      cases hsequence
      rfl

/-! ## The end of a transmission -/

section
variable {s : State} {n : Notice} {rest : List Notice}

theorem State.completeNotice_eq {frame : List Byte} (hp : s.li.phase = .sending frame) (hq : s.li.queue = n :: rest) :
    s.completeNotice
      = ((s.setLi ({ s.li with queue := rest }.release .waiting)).countLine LineCounters.incSent).setPeers
        (s.peers.afterSent n.payload) := by
  rw [State.completeNotice, hp, hq]

theorem State.endJam_eq (hp : s.li.phase = .jamming) (hq : s.li.queue = n :: rest) :
    s.endJam = if n.attempts < 8 then (s.countLine LineCounters.incCollisions).enterBackoff n.attempts
      else (s.countLine LineCounters.incCollisions).dropHead rest := by
  rw [State.endJam, hp, hq]
  rfl

/-- A completed DEMAND's entries become the last-sent list, and no other notice moves it (R88). -/
theorem PeerTracker.afterSent_eq (p : PeerTracker) (payload : Option Payload) :
    p.afterSent payload = { p with
      lastSent :=
        match payload with
        | some (.demand entries) => entries.map fun x =>
          { bay := x.bay.toNat, line := x.line.toNat, item := x.item, units := x.units.toNat }
        | _ => p.lastSent } := by
  cases payload with
  | none => rfl
  | some payload => cases payload <;> rfl

/-- The drawn number lies in its range (R66). -/
theorem State.backoffSlots_lt (s : State) (n : Nat) : s.backoffSlots n < 2 ^ min n 6 := Nat.mod_lt _ (by positivity)

end

/-- Settles O41, by the phase of the transmitter. -/
theorem transmissionCompletesOrBacksOffOrDrops : Obligations.TransmissionCompletesOrBacksOffOrDrops := by
  intro n rest s hup hq down
  refine ⟨fun frame hp => ⟨?_, ?_⟩, fun hp => ?_, fun r hp => ?_⟩
  · refine congrArg Host.Outcome.next ((State.whileUp_of_up _ hup).trans ?_)
    rw [State.completeNotice_eq hp hq, PeerTracker.afterSent_eq]
    rfl
  · refine congrArg Host.Outcome.next ((State.whileUp_of_up _ hup).trans ?_)
    rw [State.collide, hp]
  · intro counted
    refine ⟨fun ha => ⟨(s.countLine LineCounters.incCollisions).backoffSlots n.attempts, State.backoffSlots_lt _ _, ?_⟩,
      fun ha => ?_⟩
    · refine congrArg Host.Outcome.next ((State.whileUp_of_up _ hup).trans ?_)
      rw [State.endJam_eq hp hq, if_pos ha]
      rfl
    · refine congrArg Host.Outcome.next ((State.whileUp_of_up _ hup).trans ?_)
      rw [State.endJam_eq hp hq, if_neg (by omega)]
      rfl
  · refine congrArg Host.Outcome.next ((State.whileUp_of_up _ hup).trans ?_)
    rw [State.endBackoff, hp]

end Sys2Proof.Machine

/-! PROOF. Received frames and what a good notice does (R68 to R72, R74, R77 to R84, R99, R103, R104), and the expiries
of the peers (R79, R89). -/

namespace Sys2Proof.Machine

/-! ## Frame commands -/

/-- Every command that brings a frame hands one to the receiver (R68). -/
theorem exec_bringsFrame {c : Instr} {s : State} (hup : s.resetLow = false) (h : bringsFrame c) :
    ∃ class', exec c s = .next (s.receive class') := by
  have hw (class' : FrameClass) : s.whileUp (fun t => t.receive class') = s.receive class' := State.whileUp_of_up _ hup
  obtain ⟨levels, rfl⟩ | ⟨sender, sequence, capacity, bays, revision, rfl⟩ | ⟨sender, sequence, entries, rfl⟩
    | ⟨sender, sequence, tote, serial, item, units, remaining, rfl⟩
    | ⟨sender, sequence, tote, serial, item, remaining, rfl⟩ := h
  · exact ⟨_, congrArg Host.Outcome.next (hw _)⟩
  · exact ⟨_, congrArg Host.Outcome.next (hw _)⟩
  · exact ⟨_, congrArg Host.Outcome.next (hw _)⟩
  · exact ⟨_, congrArg Host.Outcome.next (hw _)⟩
  · exact ⟨_, congrArg Host.Outcome.next (hw _)⟩

section
variable {s : State} (hm : s.ctl.mode ≠ .loading) (hl : s.li.lde = false)
include hm hl

/-- Once an idle line has been seen the receiver takes the frame (R68, R74). -/
theorem State.receive_seen (hi : s.li.idleSeen = true) (class' : FrameClass) :
    s.receive class' = s.takeFrame class' := by
  obtain ⟨hbusy, -⟩ | ⟨-, -, hnot, -⟩ | ⟨-, -, -, h⟩ := s.receive_cases class'
  · exact absurd hbusy (by simp [hm, hl])
  · exact absurd hnot (by simp [hi])
  · exact h

theorem State.receive_unseen (hi : s.li.idleSeen = false) (class' : FrameClass) : s.receive class' = s.seeIdle := by
  obtain ⟨hbusy, -⟩ | ⟨-, -, -, h⟩ | ⟨-, -, hseen, -⟩ := s.receive_cases class'
  · exact absurd hbusy (by simp [hm, hl])
  · exact h
  · exact absurd hseen (by simp [hi])

end

theorem State.receive_deaf {s : State} (h : s.ctl.mode = .loading ∨ s.li.lde = true) (class' : FrameClass) :
    s.receive class' = s := by
  obtain ⟨-, h⟩ | ⟨hm, hl, -⟩ | ⟨hm, hl, -⟩ := s.receive_cases class'
  · exact h
  · exact absurd h (by simp [hm, hl])
  · exact absurd h (by simp [hm, hl])

/-! ## The checks on a frame -/

theorem byte_eq_of_toNat {x y : Byte} (h : x.toNat = y.toNat) : x = y := BitVec.eq_of_toNat_eq h

/-- The payloads that check 3 of R68 accepts: the kind codes with the lengths of their forms. -/
def payloadForm (kind len : Byte) (payload : List Byte) : Prop :=
  (kind = 1 ∧ len = 3) ∨ (kind = 3 ∧ len = 7) ∨ (kind = 4 ∧ len = 6)
    ∨ (kind = 2 ∧ ∃ (count : Byte) (entries : List Byte), payload = count :: entries ∧ count.toNat ≤ 16
      ∧ len.toNat = 1 + 6 * count.toNat)

theorem payloadForm_of_parse {kind len : Byte} {payload : List Byte} {p : Payload} (hl : payload.length = len.toNat)
    (h : parsePayload kind payload = some p) : payloadForm kind len payload := by
  unfold parsePayload at h
  split at h
  · next hkind => exact .inl ⟨byte_eq_of_toNat hkind, byte_eq_of_toNat hl.symm⟩
  · next count rest hkind =>
    split at h
    · next hcount =>
      refine .inr (.inr (.inr ⟨byte_eq_of_toNat hkind, count, rest, rfl, hcount.1, ?_⟩))
      rw [← hl, List.length_cons, hcount.2]
      omega
    · cases h
  · next hkind => exact .inr (.inl ⟨byte_eq_of_toNat hkind, byte_eq_of_toNat hl.symm⟩)
  · next hkind => exact .inr (.inr (.inl ⟨byte_eq_of_toNat hkind, byte_eq_of_toNat hl.symm⟩))
  · cases h

/-- Header and payload that pass check 3 (R68). -/
def coveredForm (covered : List Byte) : Prop :=
  ∃ (sender kind sequence len : Byte) (payload : List Byte),
    covered = sender :: kind :: sequence :: len :: payload ∧ 1 ≤ sender.toNat ∧ sender.toNat ≤ 32
      ∧ payload.length = len.toNat ∧ payloadForm kind len payload

theorem classifyCovered_malformed {covered : List Byte} (h : ¬ coveredForm covered) :
    classifyCovered covered = .malformed := by
  unfold classifyCovered
  split
  · next sender kind sequence len payload =>
    split
    · next hgood =>
      split
      · next p hp =>
        obtain ⟨hsender, hl⟩ := hgood
        rw [goodSender, Bool.and_eq_true, decide_eq_true_eq, decide_eq_true_eq] at hsender
        exact absurd ⟨sender, kind, sequence, len, payload, rfl, hsender.1, hsender.2, hl, payloadForm_of_parse hl hp⟩ h
      · rfl
    · rfl
  · rfl

/-- Settles O42: the frame commands before an idle line is seen, and the three checks in order after it. -/
theorem badFramesAreClassifiedAndCounted : Obligations.BadFramesAreClassifiedAndCounted := by
  refine ⟨fun c s hup hc => ?_, ?_⟩
  · obtain ⟨class', hexec⟩ := exec_bringsFrame hup hc
    refine ⟨fun h => ?_, fun hm hl hi => ?_⟩
    · rw [hexec, State.receive_deaf h]
    · rw [hexec, State.receive_unseen hm hl hi]
      rfl
  · intro bits rest s hup hm hl hi hrest levels bytes covered check1 check2 check3 c
    have hexec : exec (.badFrame levels) s = .next (s.takeFrame (classify bits)) := by
      refine congrArg Host.Outcome.next ((State.whileUp_of_up _ hup).trans ?_)
      rw [decodeCells_flatMap bits hrest, State.receive_seen hm hl hi]
    have hclass : classify bits = if check1 then classifyBytes bytes else .fragment := rfl
    have hbytes : classifyBytes bytes = if check2 then classifyCovered covered else .crcBad := by
      rw [classifyBytes]
      exact if_congr (and_congr Iff.rfl eq_comm) rfl rfl
    refine ⟨fun h1 => ?_, fun h1 h2 => ?_, fun h1 h2 h3 => ?_⟩
    · rw [hexec, hclass, if_neg h1]
      rfl
    · intro counted
      rw [hexec, hclass, if_pos h1, hbytes, if_neg h2]
      change Host.Outcome.next s.countCrcBad = _
      unfold State.countCrcBad
      rfl
    · rw [hexec, hclass, if_pos h1, hbytes, if_pos h2, classifyCovered_malformed h3]
      rfl

/-! ## The roster -/

theorem revealsGap_iff (r : PeerRecord) (isJoin : Bool) (sequence : Byte) : revealsGap r isJoin sequence = true ↔
    r.state = .present ∧ isJoin = false ∧ ∀ last, r.lastSequence = some last → last + 1 ≠ sequence := by
  simp only [revealsGap, Bool.and_eq_true, beq_iff_eq, Bool.not_eq_true', decide_eq_true_eq, and_assoc]
  cases r.lastSequence with
  | none => simp
  | some last => simp

/-- A gap marks every tote entry uncertain (R78, R105). -/
theorem State.rosterUpdate_uncertain (s : State) (p : Nat) (isJoin : Bool) (sequence : Byte) :
    (s.rosterUpdate p isJoin sequence).totes = if revealsGap (s.peer p) isJoin sequence = true then
        { s.totes with table := s.totes.table.map fun e => { e with uncertain := true } }
      else s.totes := by
  unfold State.rosterUpdate
  dsimp only
  split
  · rfl
  · rfl

/-- Settles O43, field by field. -/
theorem goodNoticeUpdatesTheRoster : Obligations.GoodNoticeUpdatesTheRoster := by
  intro s p isJoin sequence h1 h32 r gap t
  have hgap : revealsGap (s.peer p) isJoin sequence = true ↔ gap := revealsGap_iff _ _ _
  refine ⟨?_, fun q hq1 hq32 hne => State.rosterUpdate_peer_of_ne s isJoin sequence ⟨h1, h32⟩ ⟨hq1, hq32⟩ hne, ?_, ?_, ?_,
    ?_, s.rosterUpdate_changedOnly p isJoin sequence⟩
  · rw [State.rosterUpdate_peer_same, PeerRecord.afterNotice]
    simp only [hgap]
    rfl
  · rw [State.rosterUpdate_peers]
  · rw [State.rosterUpdate_li]
    simp only [hgap]
    rfl
  · rw [State.rosterUpdate_li]
  · rw [State.rosterUpdate_uncertain]
    simp only [hgap]

/-! ## Good notices -/

/-- A good sender's notice that the receiver takes (R68, R69). -/
theorem exec_notice {s : State} {sender sequence : Byte} {payload : Payload} (hup : s.resetLow = false)
    (hm : s.ctl.mode ≠ .loading) (hl : s.li.lde = false) (hi : s.li.idleSeen = true) (h1 : 1 ≤ sender.toNat)
    (h32 : sender.toNat ≤ 32) (hform : payload.wellFormed = true) :
    s.whileUp (fun t => t.receive (noticeClass sender sequence payload)) = s.goodNotice sender sequence payload := by
  have hsender : goodSender sender = true := by simp [goodSender, h1, h32]
  rw [State.whileUp_of_up _ hup, State.receive_seen hm hl hi, noticeClass, if_pos ⟨hsender, hform⟩]
  rfl

/-- A notice from a peer is counted and delivered (R69). -/
theorem State.goodNotice_peer {s : State} {sender : Byte} (hne : sender.toNat ≠ s.ctl.station) (sequence : Byte)
    (payload : Payload) :
    s.goodNotice sender sequence payload
      = (s.countLine LineCounters.incGood).deliver sender.toNat sequence payload := if_neg hne

/-! ## Heard demand -/

theorem State.insertHeard_clock (s : State) (h : HeardEntry) : (s.insertHeard h).clock = s.clock :=
  s.insertHeard_changedOnly h .clock (by simp)

/-- The entries taken one at a time are those `entriesTaken` lists, but for the bays and lines taken before (R82). -/
theorem State.takeEntries_eq (p : Nat) : ∀ (es : List DemandEntry) (s : State) (taken : List (BitVec 4 × BitVec 4)),
    s.takeEntries p es taken
      = ((entriesTaken es).filter fun x => !taken.contains (x.bay, x.line)).foldl
        (fun u e => u.insertHeard { peer := p, entry := e, timeHeard := s.clock }) s
  | [], _, _ => rfl
  | e :: es, s, taken => by
    unfold State.takeEntries entriesTaken
    by_cases hzero : e.units = 0 ∨ e.item = 0
    · rw [if_pos (by tauto), if_pos hzero, State.takeEntries_eq p es s taken]
    · rw [if_neg hzero]
      by_cases htaken : taken.contains (e.bay, e.line) = true
      · have hsame : ((entriesTaken es).filter fun x => x.bay != e.bay || x.line != e.line).filter
            (fun x => !taken.contains (x.bay, x.line))
            = (entriesTaken es).filter fun x => !taken.contains (x.bay, x.line) := by
          rw [List.filter_filter]
          refine List.filter_congr fun x _ => ?_
          rw [Bool.and_eq_left_iff_imp]
          intro hx
          by_contra hplace
          simp only [Bool.or_eq_true, bne_iff_ne, not_or, not_not] at hplace
          rw [hplace.1, hplace.2, htaken] at hx
          cases hx
        rw [if_pos (by tauto), State.takeEntries_eq p es s taken, List.filter_cons, if_neg (by simpa using htaken), hsame]
      · have hrest : ((entriesTaken es).filter fun x => x.bay != e.bay || x.line != e.line).filter
            (fun x => !taken.contains (x.bay, x.line))
            = (entriesTaken es).filter fun x => !((e.bay, e.line) :: taken).contains (x.bay, x.line) := by
          rw [List.filter_filter]
          refine List.filter_congr fun x _ => ?_
          simp only [List.contains_cons, Bool.not_or]
          rw [Bool.and_comm]
          congr 1
          rw [Bool.eq_iff_iff]
          simp [Prod.ext_iff]
          tauto
        rw [if_neg (by tauto), State.takeEntries_eq p es _ _, List.filter_cons, if_pos (by simpa using htaken), hrest,
          State.insertHeard_clock]
        rfl

/-- The lowest-ranked entry ranks above none (R84). -/
theorem lowestHeard_least : ∀ {l : List HeardEntry} {m : HeardEntry}, lowestHeard l = some m →
    ∀ x ∈ l, ranksAbove m.key x.key = false
  | [], _, h => by cases h
  | e :: es, m, h => by
    unfold lowestHeard at h
    split at h
    · next hnone =>
      cases h
      rw [lowestHeard_eq_none_iff] at hnone
      simp [hnone, ranksAbove_self]
    · next k hk =>
      have hleast := lowestHeard_least hk
      split at h
      · next habove =>
        cases h
        rintro x (_ | ⟨_, hx⟩)
        · exact ranksAbove_self _
        · exact not_ranksAbove_trans (hleast x hx) (ranksAbove_asymm habove)
      · next hnot =>
        cases h
        rintro x (_ | ⟨_, hx⟩)
        · simpa using hnot
        · exact hleast x hx

/-- Settles O44: the two notices, and the insertion of one entry. -/
theorem joinAndDemandReplaceWhatWasHeard : Obligations.JoinAndDemandReplaceWhatWasHeard := by
  refine ⟨?_, fun s h => ⟨fun hroom => if_pos hroom, fun hfull => ?_⟩⟩
  · intro sender sequence s hup hm hl hi h1 h32 hne counted cleared
    refine ⟨fun capacity bays revision => ?_, fun entries hentries => ?_⟩
    · refine congrArg Host.Outcome.next ((exec_notice hup hm hl hi h1 h32 rfl).trans ?_)
      rw [State.goodNotice_peer hne]
      rfl
    · have hform : (Payload.demand entries).wellFormed = true := decide_eq_true hentries
      refine congrArg Host.Outcome.next ((exec_notice hup hm hl hi h1 h32 hform).trans ?_)
      have hclock : (cleared false).clock = s.clock :=
        State.rosterUpdate_changedOnly counted sender.toNat false sequence .clock (by simp)
      have hall : (entriesTaken entries).filter (fun x => !([] : List (BitVec 4 × BitVec 4)).contains (x.bay, x.line))
          = entriesTaken entries := by simp
      rw [State.goodNotice_peer hne]
      refine (State.takeEntries_eq sender.toNat entries (cleared false) []).trans ?_
      rw [hall, hclock]
  · cases hlow : lowestHeard s.peers.heard with
    | none =>
      rw [lowestHeard_eq_none_iff] at hlow
      simp [hlow] at hfull
    | some m =>
      refine ⟨m, lowestHeard_mem hlow, lowestHeard_least hlow, ?_⟩
      have hroom : ¬ s.peers.heard.length < heardPlaces := by simpa [heardPlaces] using hfull
      rw [State.insertHeard, if_neg hroom, hlow]
      rfl

/-! ## Tote counts -/

/-- The comparison of fill serials as a difference modulo 256 (R99). -/
theorem serialOrder_eq (arriving held : Serial) :
    serialOrder arriving held = if (arriving.toNat + 256 - held.toNat) % 256 = 0 then .same
      else if (arriving.toNat + 256 - held.toNat) % 256 ≤ 127 then .newer else .older := by
  have hdiff : (arriving - held).toNat = (arriving.toNat + 256 - held.toNat) % 256 := by
    have hheld := held.isLt
    rw [BitVec.toNat_sub]
    congr 1
    omega
  rw [serialOrder, hdiff]

section
variable {u : State} {tote : ToteId} {serial : Serial} {item : ItemCode} {units remaining : Byte}

theorem State.heard_none (ht : tote ≠ 0) (hi : item ≠ 0) (h : u.toteEntry tote = none) :
    u.heardDraw tote serial item units remaining = u.putEntry (noticedEntry tote serial item remaining u.clock)
      ∧ u.heardTally tote serial item remaining = u.putEntry (noticedEntry tote serial item remaining u.clock) := by
  rw [State.heardDraw, State.heardTally, if_neg (not_or.mpr ⟨ht, hi⟩), if_neg (not_or.mpr ⟨ht, hi⟩), h]
  exact ⟨rfl, rfl⟩

theorem State.heard_some {e : ToteEntry} (ht : tote ≠ 0) (hi : item ≠ 0) (h : u.toteEntry tote = some e) :
    (serialOrder serial e.serial = .same →
      u.heardDraw tote serial item units remaining
          = u.putEntry { e with remaining := e.remaining - units.toNat, touched := u.clock }
        ∧ u.heardTally tote serial item remaining = u.putEntry (noticedEntry tote serial item remaining u.clock))
      ∧ (serialOrder serial e.serial = .newer →
        u.heardDraw tote serial item units remaining = u.putEntry (noticedEntry tote serial item remaining u.clock)
          ∧ u.heardTally tote serial item remaining = u.putEntry (noticedEntry tote serial item remaining u.clock))
      ∧ (serialOrder serial e.serial = .older →
        u.heardDraw tote serial item units remaining = u ∧ u.heardTally tote serial item remaining = u) := by
  rw [State.heardDraw, State.heardTally, if_neg (not_or.mpr ⟨ht, hi⟩), if_neg (not_or.mpr ⟨ht, hi⟩), h]
  dsimp only
  refine ⟨fun ho => ?_, fun ho => ?_, fun ho => ?_⟩
  · rw [ho]
    exact ⟨rfl, rfl⟩
  · rw [ho]
    exact ⟨rfl, rfl⟩
  · rw [ho]
    exact ⟨rfl, rfl⟩

end

/-- Settles O45, by the comparison of the fill serials. -/
theorem drawAndTallySetTheToteCount : Obligations.DrawAndTallySetTheToteCount := by
  intro sender sequence tote serial item units remaining s hup hm hl hi h1 h32 hne counted u noticed d draw tally
  have hdraw : draw = .next (u.heardDraw tote serial item units remaining) := by
    refine congrArg Host.Outcome.next ((exec_notice hup hm hl hi h1 h32 rfl).trans ?_)
    rw [State.goodNotice_peer hne]
    rfl
  have htally : tally = .next (u.heardTally tote serial item remaining) := by
    refine congrArg Host.Outcome.next ((exec_notice hup hm hl hi h1 h32 rfl).trans ?_)
    rw [State.goodNotice_peer hne]
    rfl
  have hclock : u.clock = s.clock :=
    State.rosterUpdate_changedOnly counted sender.toNat false sequence .clock (by simp)
  have hnoticed : noticedEntry tote serial item remaining u.clock = noticed := by rw [noticedEntry, hclock]
  rw [hdraw, htally, Host.Outcome.next.injEq, Host.Outcome.next.injEq]
  simp only [Host.Outcome.next.injEq]
  refine ⟨fun hzero => ⟨if_pos hzero, if_pos hzero⟩, fun ht hitem => ⟨fun hnone => ?_, fun e he => ?_⟩⟩
  · rw [← hnoticed]
    exact State.heard_none ht hitem hnone
  · obtain ⟨hsame, hnewer, holder⟩ := State.heard_some (serial := serial) (units := units) (remaining := remaining) ht hitem he
    rw [serialOrder_eq, hnoticed, hclock] at hsame
    rw [serialOrder_eq, hnoticed] at hnewer
    rw [serialOrder_eq] at holder
    change (if d e = 0 then SerialOrder.same else if d e ≤ 127 then .newer else .older) = _ → _ at hnewer holder
    refine ⟨fun h => hsame (if_pos h), fun hpos hle => hnewer ?_, fun hge => holder ?_⟩
    · rw [if_neg (by omega), if_pos hle]
    · rw [if_neg (by omega), if_neg (by omega)]

/-! ## Peer expiries -/

/-- Settles O47: each expiry before its clock value and from it on. -/
theorem silenceAndRefreshExpire : Obligations.SilenceAndRefreshExpire := by
  intro s hup
  have hsilence (p : Nat) : exec (.silenceExpiry p) s = .next (s.takeSilence p) :=
    congrArg Host.Outcome.next (State.whileUp_of_up _ hup)
  have hrefresh : exec .refreshExpiry s = .next s.takeRefresh :=
    congrArg Host.Outcome.next (State.whileUp_of_up _ hup)
  refine ⟨fun p heard h1 h32 hpresent hheard => ?_, fun p h1 h32 habsent => ?_, fun e he => ?_, fun hnone => ?_⟩
  · intro limit
    have hdue : s.silenceIsDue p = true ↔ min (heard + limit) 4294967295 ≤ s.clock := by
      rw [State.silenceIsDue, hpresent, hheard]
      simp [h1, h32, State.silenceDue, limitClock, clockMax, Settings.silenceLimit, limit]
    refine ⟨fun hearly => ?_, fun hlate => ⟨_, hsilence p, ?_⟩⟩
    · rw [hsilence, State.takeSilence, if_neg (by rw [hdue]; omega)]
    · rw [State.takeSilence, if_pos (hdue.mpr hlate)]
      refine ⟨State.setPeer_peer_same s p _, fun q hq1 hq32 hne => ?_, rfl, ?_⟩
      · exact State.setPeer_peer_of_ne s _ ⟨h1, h32⟩ ⟨hq1, hq32⟩ hne
      · exact State.changedOnly_trans (s.setPeer_changedOnly p _) (State.removeHeard_changedOnly _ p)
  · have hdue : s.silenceIsDue p = false := by simp [State.silenceIsDue, habsent]
    rw [hsilence, State.takeSilence, hdue]
    rfl
  · rw [hrefresh, State.takeRefresh, he]
    refine ⟨fun hearly => ?_, fun hlate => ?_⟩
    · exact congrArg Host.Outcome.next (if_neg (by omega))
    · exact congrArg Host.Outcome.next (if_pos hlate)
  · rw [hrefresh, State.takeRefresh, hnone]

end Sys2Proof.Machine

/-! PROOF. The events of the bench lane (R119 to R122, R133), and the refusals of its two requests (R128, R132). -/

namespace Sys2Proof.Machine

/-! ## Lane entries -/

theorem LaneEntry.isInbound_iff {e : LaneEntry} : e.isInbound = true ↔ e.state = .inbound := by
  unfold LaneEntry.isInbound LaneEntry.isAtBench
  cases e.state with
  | inbound => simp
  | atBench arrival => simp

theorem LaneEntry.isAtBench_iff {e : LaneEntry} : e.isAtBench = true ↔ e.state ≠ .inbound := by
  rw [Ne, ← LaneEntry.isInbound_iff, LaneEntry.isInbound]
  simp

/-- With every entry INBOUND none is at the bench (R128, R132). -/
theorem State.headAtBench_eq_none {s : State} (h : ∀ e ∈ s.lane.queue, e.state = .inbound) : s.headAtBench = none := by
  rw [State.headAtBench, List.find?_eq_none]
  intro e he
  rw [LaneEntry.isAtBench_iff]
  exact fun hne => hne (h e he)

/-! ## Arrivals -/

/-- The oldest INBOUND entry is the one an arrival is matched to (R121). -/
theorem matchArrival_append (now : Nat) {e : LaneEntry} (younger : List LaneEntry) (he : e.state = .inbound) :
    ∀ older : List LaneEntry, (∀ x ∈ older, x.state ≠ .inbound) →
      matchArrival now (older ++ e :: younger) = older ++ { e with state := .atBench now } :: younger
  | [], _ => by
    rw [List.nil_append, matchArrival, if_pos (LaneEntry.isInbound_iff.mpr he)]
    rfl
  | x :: older, h => by
    have hx : x.isInbound ≠ true := fun hin => h x (by simp) (LaneEntry.isInbound_iff.mp hin)
    rw [List.cons_append, matchArrival, if_neg hx, matchArrival_append now younger he older fun y hy => h y (by simp [hy]),
      List.cons_append]

theorem exec_arrival {s : State} (hup : s.resetLow = false) (lowMicros : Nat) : exec (.arrival lowMicros) s = .next
    (if s.ctl.mode = .loading ∨ lowMicros < 10000 then s else s.arrival) :=
  congrArg Host.Outcome.next (State.whileUp_of_up _ hup)

/-- An entry of this tote whose dwell expiry is due (R133). -/
theorem State.dwellIsDue_eq (s : State) (tote : ToteId) (e : LaneEntry) : (e.tote == tote && s.dwellIsDue e)
    = (e.tote == tote && !e.stale
      && match e.state with
        | .inbound => false
        | .atBench arrival => decide (min (arrival + s.loader.active.dwellLimit * 10) 4294967295 ≤ s.clock)) := by
  unfold State.dwellIsDue
  cases e.state with
  | inbound => simp
  | atBench arrival => rw [Bool.and_assoc]; rfl

/-- Settles O35: an arrival by the oldest INBOUND entry, the pulses, and the dwell expiry by the entries due. -/
theorem arrivalsPulsesAndDwellDriveTheLane : Obligations.ArrivalsPulsesAndDwellDriveTheLane := by
  intro s hup
  refine ⟨fun lowMicros h => ?_, fun lowMicros hlow hm => ⟨fun older e younger hq holder he => ?_, fun hnone => ?_⟩,
    congrArg Host.Outcome.next (State.whileUp_of_up _ hup), congrArg Host.Outcome.next (State.whileUp_of_up _ hup),
    fun tote => ?_⟩
  · rw [exec_arrival hup, if_pos h.symm]
  · have hany : s.lane.queue.any LaneEntry.isInbound = true :=
      List.any_eq_true.mpr ⟨e, by simp [hq], LaneEntry.isInbound_iff.mpr he⟩
    rw [exec_arrival hup, if_neg (by simp [hm]; omega), State.arrival, if_pos hany, hq,
      matchArrival_append s.clock younger he older holder]
    rfl
  · have hany : ¬ s.lane.queue.any LaneEntry.isInbound = true := by
      rw [List.any_eq_true]
      rintro ⟨e, he, hin⟩
      exact hnone e he (LaneEntry.isInbound_iff.mp hin)
    rw [exec_arrival hup, if_neg (by simp [hm]; omega), State.arrival, if_neg hany]
    rfl
  · intro due
    have hdue : (fun e : LaneEntry => e.tote == tote && s.dwellIsDue e) = due := funext (s.dwellIsDue_eq tote)
    have hexec : exec (.dwellExpiry tote) s = .next (if s.lane.queue.any due = true then
        (s.setLaneQueue (s.lane.queue.map fun e => if due e = true then { e with stale := true } else e)).setFlag
          .laneStale else s) := by
      rw [← hdue]
      exact congrArg Host.Outcome.next (State.whileUp_of_up _ hup)
    refine ⟨fun hnone => ?_, fun hsome => ?_⟩
    · rw [hexec, if_neg]
      rw [List.any_eq_true]
      rintro ⟨e, he, hd⟩
      rw [hnone e he] at hd
      cases hd
    · rw [hexec, if_pos (List.any_eq_true.mpr hsome)]
      rfl

/-! ## The lane's requests -/

/-- A request whose block obeys its length rule reaches the owner outside LOADING (R173 to R175). -/
theorem State.request_ruled {rule : List Byte → Bool} {tx block : List Byte} {s : State} {refusal : Status → Reply}
    {owner : List Byte → State → State × Reply} (hs : s.listens) (hb : carries tx block) (hr : rule block = true)
    (hm : s.ctl.mode ≠ .loading) :
    (s.whileUp fun t => t.serve rule false refusal tx owner)
      = (owner block (s.beginRequest tx.length)).1.finishRequest (owner block (s.beginRequest tx.length)).2 := by
  obtain ⟨hup, hidle⟩ := hs
  rw [State.whileUp_of_up _ hup, State.serve_carries _ _ hidle (.inl hm) hb hr]

/-- Checks 2 and 3 of R128, allocation by allocation. -/
theorem takenFits_iff {e : LaneEntry} {taken : List Byte} : takenFits e (taken.map (·.toNat)) = true ↔
    taken.length = e.allocations.length
      ∧ ∀ (k : Nat) (a : Allocation) (x : Byte), e.allocations[k]? = some a → taken[k]? = some x → x.toNat ≤ a.granted := by
  simp only [takenFits, Bool.and_eq_true, beq_iff_eq, List.length_map, List.all_eq_true, decide_eq_true_eq]
  refine and_congr Iff.rfl ⟨fun h k a x ha hx => ?_, fun h p hp => ?_⟩
  · refine h (a, x.toNat) (List.mem_iff_getElem?.mpr ⟨k, ?_⟩)
    rw [List.getElem?_zip_eq_some]
    exact ⟨ha, by rw [List.getElem?_map, hx]; rfl⟩
  · obtain ⟨k, hk⟩ := List.mem_iff_getElem?.mp hp
    rw [List.getElem?_zip_eq_some] at hk
    obtain ⟨ha, hx⟩ := hk
    rw [List.getElem?_map, Option.map_eq_some_iff] at hx
    obtain ⟨x, hx, hval⟩ := hx
    rw [← hval]
    exact h k p.1 x ha hx

theorem takenCounts_cons (n : Byte) (taken : List Byte) : takenCounts (n :: taken) = taken.map (·.toNat) := rfl

section
variable {tx taken : List Byte} {s : State}

/-- A Confirm Pick that reaches its owner (R128). -/
theorem exec_confirmPick (hs : s.listens) (hm : s.ctl.mode ≠ .loading)
    (hb : carries tx (BitVec.ofNat 8 taken.length :: taken)) : exec (.confirmPick tx) s = .next
      ((confirmPickOwner (BitVec.ofNat 8 taken.length :: taken) (s.beginRequest tx.length)).1.finishRequest
        (confirmPickOwner (BitVec.ofNat 8 taken.length :: taken) (s.beginRequest tx.length)).2) := by
  have hlen : taken.length + 1 ≤ 250 := hb.1
  have hrule : countedLength 1 (BitVec.ofNat 8 taken.length :: taken) = true := by
    simp only [countedLength, toNat_ofNat_byte (show taken.length < 256 by omega), beq_iff_eq]
    omega
  exact congrArg Host.Outcome.next (State.request_ruled hs hb hrule hm)

theorem State.beginRequest_headAtBench (s : State) (n : Nat) : (s.beginRequest n).headAtBench = s.headAtBench := rfl

theorem exec_confirmPick_noTote (hs : s.listens) (hm : s.ctl.mode ≠ .loading)
    (hb : carries tx (BitVec.ofNat 8 taken.length :: taken)) (hnone : s.headAtBench = none) :
    exec (.confirmPick tx) s = .next (s.replied tx.length (bareReply .noTote)) := by
  rw [exec_confirmPick hs hm hb, confirmPickOwner, State.beginRequest_headAtBench, hnone]
  exact congrArg Host.Outcome.next (State.begin_finish _ _ hs.2)

theorem exec_confirmPick_badArg {e : LaneEntry} (hs : s.listens) (hm : s.ctl.mode ≠ .loading)
    (hb : carries tx (BitVec.ofNat 8 taken.length :: taken)) (he : s.headAtBench = some e)
    (hbad : takenFits e (taken.map (·.toNat)) = false) :
    exec (.confirmPick tx) s = .next (s.replied tx.length (bareReply .badArg)) := by
  rw [exec_confirmPick hs hm hb, confirmPickOwner, State.beginRequest_headAtBench, he]
  dsimp only
  rw [takenCounts_cons, if_pos hbad]
  exact congrArg Host.Outcome.next (State.begin_finish _ _ hs.2)

theorem exec_returnTote_noTote (hs : s.listens) (hm : s.ctl.mode ≠ .loading) (hb : carries tx [])
    (hnone : s.headAtBench = none) : exec (.returnTote tx) s = .next (s.replied tx.length (bareReply .noTote)) := by
  refine congrArg Host.Outcome.next ((State.request_taken (n := 0) hs hb rfl hm).trans ?_)
  rw [returnToteOwner, State.beginRequest_headAtBench, hnone]
  exact State.begin_finish _ _ hs.2

end

/-- Settles O24: each request's checks in order. -/
theorem pickAndReturnRefuseWithoutEffect : Obligations.PickAndReturnRefuseWithoutEffect := by
  intro tx s hs hm
  refine ⟨fun taken _ hb => ⟨fun hnone => ?_, fun e he hbad => ?_⟩, fun hb hnone => ?_⟩
  · exact exec_confirmPick_noTote hs hm hb (State.headAtBench_eq_none hnone)
  · refine exec_confirmPick_badArg hs hm hb he ?_
    rw [← Bool.not_eq_true, takenFits_iff]
    rintro ⟨hlen, hle⟩
    obtain hne | ⟨k, a, x, ha, hx, hlt⟩ := hbad
    · exact hne hlen
    · exact absurd (hle k a x ha hx) (by omega)
  · exact exec_returnTote_noTote hs hm hb (State.headAtBench_eq_none hnone)

end Sys2Proof.Machine

/-! PROOF. The reader port (R95 to R97): what each character does to the decoder, and the frames that are counted and
ignored. -/

namespace Sys2Proof.Machine

/-! ## The tag of a frame -/

/-- Checks 1 to 4 of R96 on eight characters, byte by byte. -/
def goodTagFrame (frame : List ReaderChar) : Prop :=
  let byte (k : Nat) : Byte := (frame.map (·.data)).getD k 0
  (∀ c ∈ frame, c.stop = true) ∧ byte 0 = 0xA5
    ∧ byte 7 = byte 1 ^^^ byte 2 ^^^ byte 3 ^^^ byte 4 ^^^ byte 5 ^^^ byte 6 ∧ byte 1 ++ byte 2 ≠ 0#16
    ∧ byte 3 ++ byte 4 ≠ 0#16

theorem parseTag_eight (b0 b1 b2 b3 b4 b5 b6 b7 : Byte) : parseTag [b0, b1, b2, b3, b4, b5, b6, b7]
    = if b0 = 0xA5 ∧ b7 = b1 ^^^ b2 ^^^ b3 ^^^ b4 ^^^ b5 ^^^ b6 ∧ b1 ++ b2 ≠ 0#16 ∧ b3 ++ b4 ≠ 0#16 then
        some { tote := b1 ++ b2, item := b3 ++ b4, serial := b5, fill := b6 } else none := by
  have hxor : xorBytes [b1, b2, b3, b4, b5, b6] = b1 ^^^ b2 ^^^ b3 ^^^ b4 ^^^ b5 ^^^ b6 := by
    simp [xorBytes]
  rw [parseTag, hxor]

theorem tagOfFrame_good {frame : List ReaderChar} (hl : frame.length = 8) (h : goodTagFrame frame) :
    ∃ t, tagOfFrame frame = some t
      ∧ t.tote = (frame.map (·.data)).getD 1 0 ++ (frame.map (·.data)).getD 2 0 := by
  obtain ⟨hstop, hform⟩ := h
  rw [tagOfFrame, if_pos (List.all_eq_true.mpr hstop)]
  have hlen : (frame.map (·.data)).length = 8 := by rw [List.length_map, hl]
  revert hform
  generalize frame.map (·.data) = bytes at hlen ⊢
  match bytes, hlen with
  | [b0, b1, b2, b3, b4, b5, b6, b7], _ =>
    intro hform
    rw [parseTag_eight]
    exact ⟨_, if_pos hform, rfl⟩

theorem tagOfFrame_bad {frame : List ReaderChar} (hl : frame.length = 8) (h : ¬ goodTagFrame frame) :
    tagOfFrame frame = none := by
  rw [tagOfFrame]
  split
  · next hstop =>
    have hstops : ∀ c ∈ frame, c.stop = true := List.all_eq_true.mp hstop
    have hlen : (frame.map (·.data)).length = 8 := by rw [List.length_map, hl]
    have hform : ¬ _ := fun hform => h ⟨hstops, hform⟩
    revert hform
    generalize frame.map (·.data) = bytes at hlen ⊢
    match bytes, hlen with
    | [b0, b1, b2, b3, b4, b5, b6, b7], _ =>
      intro hform
      rw [parseTag_eight]
      exact if_neg hform
  · rfl

/-! ## The commands -/

section
variable {s : State} (hup : s.resetLow = false)
include hup

theorem exec_tagRead (earlier : List ReaderEvent) (last : ReaderChar) (laneFull : Bool) :
    exec (.tagRead earlier last laneFull) s
      = .next ((s.readerActivity earlier laneFull).readerCharacter laneFull last) :=
  congrArg Host.Outcome.next (State.whileUp_of_up _ hup)

theorem exec_shortReaderFrame : exec .shortReaderFrame s = .next s.endShortFrame :=
  congrArg Host.Outcome.next (State.whileUp_of_up _ hup)

/-- What RDRX brings first is taken first (R95). -/
theorem exec_tagRead_cons {t : State} (e : ReaderEvent) (rest : List ReaderEvent) (last : ReaderChar) (laneFull : Bool)
    (ht : State.readerEvent laneFull s e = t) :
    exec (.tagRead (e :: rest) last laneFull) s = exec (.tagRead rest last laneFull) t := by
  have hlow : t.resetLow = false := by
    rw [← ht, ← hup]
    cases e with
    | idle => exact s.readerIdle_changedOnly .resetLow (by simp)
    | character c => exact s.readerCharacter_changedOnly laneFull c .resetLow (by simp [readerBlocks])
  rw [exec_tagRead hup, exec_tagRead hlow, ← ht]
  rfl

end

/-- What an idle line of 2 ms does, by the decoder's state (R95, R96). -/
theorem State.readerIdle_eq (s : State) : s.readerIdle =
    match s.totes.decoder with
    | .stopped => s
    | .waiting => s.setDecoder (.assembling [])
    | .assembling frame => if frame = [] then s else (s.setDecoder (.assembling [])).malformedRead
    | .taken tail => if tail = true then (s.setDecoder (.assembling [])).malformedRead
      else s.setDecoder (.assembling []) := by
  unfold State.readerIdle
  cases s.totes.decoder with
  | stopped => rfl
  | waiting => rfl
  | assembling frame =>
    cases frame with
    | nil => rfl
    | cons c cs => rfl
  | taken tail =>
    cases tail with
    | false => rfl
    | true => rfl

theorem State.inLane_iff {s : State} {tote : ToteId} : s.inLane tote = true ↔ ∃ e ∈ s.lane.queue, e.tote = tote := by
  simp [State.inLane]

/-- Settles O31, by the decoder's state. -/
theorem readerFramesAreCountedAndIgnored : Obligations.ReaderFramesAreCountedAndIgnored := by
  intro s hup goesTo malformed idled
  refine ⟨fun hd => ⟨?_, fun earlier last laneFull => ?_⟩, fun hd => ⟨?_, fun last laneFull => ?_⟩,
    fun tail hd => ⟨?_, fun last laneFull => ?_⟩, fun frame hd => ⟨?_, fun last laneFull => ⟨fun hl => ?_, fun hl => ?_⟩⟩,
    fun rest last laneFull => ?_, fun c rest last laneFull t ht => ?_⟩
  · rw [exec_shortReaderFrame hup, State.endShortFrame, hd]
  · rw [exec_tagRead hup, State.readerActivity_stopped hd, State.readerCharacter, hd]
  · rw [exec_shortReaderFrame hup, State.endShortFrame, hd]
    rfl
  · rw [exec_tagRead hup]
    change Host.Outcome.next (s.readerCharacter laneFull last) = _
    rw [State.readerCharacter, hd]
  · rw [exec_shortReaderFrame hup, State.endShortFrame, hd]
    rfl
  · rw [exec_tagRead hup]
    change Host.Outcome.next (s.readerCharacter laneFull last) = _
    rw [State.readerCharacter, hd]
    rfl
  · rw [exec_shortReaderFrame hup, State.endShortFrame, hd]
    rfl
  · rw [exec_tagRead hup]
    exact congrArg Host.Outcome.next (State.readerCharacter_assembling last laneFull hd hl)
  · intro byte tote item good
    have hlen : (frame ++ [last]).length = 8 := by simp [hl]
    have hexec : exec (.tagRead [] last laneFull) s
        = .next ((s.setDecoder (.taken false)).readerFrame (frame ++ [last]) laneFull) := by
      rw [exec_tagRead hup]
      exact congrArg Host.Outcome.next (State.readerCharacter_eighth last laneFull hd hl)
    refine ⟨fun hbad => ?_, fun hgood hin => ?_⟩
    · rw [hexec, State.readerFrame, tagOfFrame_bad hlen hbad]
      rfl
    · obtain ⟨t, ht, htote⟩ := tagOfFrame_good hlen hgood
      have hlane : (s.setDecoder (.taken false)).inLane t.tote = true := by
        rw [State.inLane_iff, htote]
        exact hin
      rw [hexec, State.readerFrame, ht]
      dsimp only
      rw [if_pos hlane]
      rfl
  · refine exec_tagRead_cons hup .idle rest last laneFull ?_
    exact s.readerIdle_eq
  · refine exec_tagRead_cons hup (.character c) rest last laneFull ?_
    rw [exec_tagRead hup] at ht
    cases ht
    rfl

end Sys2Proof.Machine

/-! PROOF. Load Items record by record (R3, R4), and the checks of Open Build in order (R14). -/

namespace Sys2Proof.Machine

/-! ## Load Items -/

section
variable {s : State} {items : List ItemRecord} {r : RawItem}

theorem findItem_isSome_eq (items : List ItemRecord) (code : ItemCode) :
    (findItem items code).isSome = items.any fun x => x.code == code := by
  rw [findItem, Bool.eq_iff_iff, List.find?_isSome, List.any_eq_true]

theorem State.itemInUse_setItems (s : State) (items : List ItemRecord) :
    (s.setItems items).itemInUse = s.itemInUse := rfl

/-- The checks of R3 against a table (R3). -/
theorem State.checkItem_eq (s : State) (items : List ItemRecord) (r : RawItem) :
    (s.setItems items).checkItem r = s.itemRefusal items r := by
  have hrange : (r.code = 0 ∨ r.weight < 1 ∨ 9999 < r.weight ∨ 2 ≤ r.chill.toNat)
      ↔ (r.code = 0 ∨ r.weight = 0 ∨ 9999 < r.weight ∨ 1 < r.chill.toNat) := by
    rw [Nat.lt_one_iff]
    rfl
  have hheld := findItem_isSome_eq items r.code
  rw [State.checkItem, State.itemRefusal, ← hheld]
  simp only [hrange, State.setItems_items, State.itemInUse_setItems]
  cases findItem items r.code with
  | none => rfl
  | some x => rfl

theorem takeRecord_record (items : List ItemRecord) (r : RawItem) : takeRecord items r.record = tableWith items r := by
  have hchill : (r.chill.toNat == 1) = decide (r.chill = 1) := by
    rw [Bool.eq_iff_iff, beq_iff_eq, decide_eq_true_iff, ← BitVec.toNat_inj]
    rfl
  have hrecord : r.record = { code := r.code, value := r.value, weight := r.weight, chilled := decide (r.chill = 1) } := by
    rw [RawItem.record, hchill]
  rw [takeRecord, tableWith, findItem_isSome_eq, hrecord]

/-- Records that pass their checks are taken one after the other (R3). -/
theorem State.loadRecords_append : ∀ (taken : List RawItem) (items : List ItemRecord) (rest : List RawItem) (n : Nat),
    (∀ k r, taken[k]? = some r → s.itemRefusal ((taken.take k).foldl tableWith items) r = none) →
    (s.setItems items).loadRecords (taken ++ rest) n
      = (s.setItems (taken.foldl tableWith items)).loadRecords rest (n + taken.length)
  | [], _, _, _, _ => rfl
  | r :: taken, items, rest, n, h => by
    have hfirst : (s.setItems items).checkItem r = none := by
      rw [State.checkItem_eq]
      exact h 0 r rfl
    have hrest := State.loadRecords_append taken (tableWith items r) rest (n + 1) fun k x hx => h (k + 1) x hx
    rw [List.cons_append, State.loadRecords, hfirst]
    dsimp only
    rw [State.setItems_items, takeRecord_record]
    refine hrest.trans ?_
    rw [List.foldl_cons, List.length_cons, Nat.add_assoc, Nat.add_comm 1]

end

section
variable {tx : List Byte} {s : State} {rs : List RawItem}

theorem loadItemsBlock_length (rs : List RawItem) : (loadItemsBlock rs).length = 1 + 7 * rs.length := by
  rw [loadItemsBlock, List.length_cons, flatMap_length_const RawItem.bytes_length]
  omega

/-- A Load Items block that is carried holds fewer than 256 records. -/
theorem loadItemsBlock_count (hb : carries tx (loadItemsBlock rs)) : fieldAt (loadItemsBlock rs) 0 1 = rs.length := by
  obtain ⟨hlen, -⟩ := hb
  rw [loadItemsBlock_length] at hlen
  rw [fieldAt_one_of_getElem? rfl, toNat_ofNat_byte (by omega)]

/-- A Load Items that reaches its owner (R3). -/
theorem exec_loadItems (hs : s.listens) (hm : s.ctl.mode ≠ .loading) (hb : carries tx (loadItemsBlock rs)) :
    exec (.loadItems tx) s = .next
      ((loadItemsOwner (loadItemsBlock rs) (s.beginRequest tx.length)).1.finishRequest
        (loadItemsOwner (loadItemsBlock rs) (s.beginRequest tx.length)).2) := by
  have hrule : countedLength 7 (loadItemsBlock rs) = true := by
    have hcount := loadItemsBlock_count hb
    rw [loadItemsBlock, fieldAt_one_of_getElem? rfl] at hcount
    rw [loadItemsBlock, countedLength, hcount, flatMap_length_const RawItem.bytes_length, beq_self_eq_true]
  exact congrArg Host.Outcome.next (State.request_ruled hs hb hrule hm)

/-- What the Build Store does with a Load Items of 1 to 8 records (R3). -/
theorem loadItemsOwner_taken (hb : carries tx (loadItemsBlock rs)) (hfits : ∀ r ∈ rs, r.fits) (h1 : 1 ≤ rs.length)
    (h8 : rs.length ≤ 8) (t : State) : loadItemsOwner (loadItemsBlock rs) t
      = ((t.loadRecords rs 0).1, itemsReply (t.loadRecords rs 0).2.2 (t.loadRecords rs 0).2.1) := by
  have hparse : parseItems ((loadItemsBlock rs).drop 1) = rs := parseItems_flatMap hfits
  rw [loadItemsOwner, loadItemsBlock_count hb, if_neg (by omega), hparse]

end

/-- Settles O17: the records taken, then the first that fails or the end. -/
theorem loadItemsTakesRecordsUpToTheFirstFailure : Obligations.LoadItemsTakesRecordsUpToTheFirstFailure := by
  intro tx s hs hm
  refine ⟨fun taken rest hfits h1 h8 hb hpass st hst => ?_, fun rs hcount hb => ?_⟩
  · have hload : (s.beginRequest tx.length).loadRecords (taken ++ rest) 0
        = ((s.beginRequest tx.length).setItems (taken.foldl tableWith s.items), st, taken.length) := by
      refine (State.loadRecords_append (s := s.beginRequest tx.length) taken s.items rest 0 hpass).trans ?_
      rw [Nat.zero_add]
      cases rest with
      | nil =>
        rw [hst]
        rfl
      | cons r rest =>
        have hcheck : ((s.beginRequest tx.length).setItems (taken.foldl tableWith s.items)).checkItem r = some st := by
          rw [State.checkItem_eq]
          exact hst
        rw [State.loadRecords, hcheck]
    rw [exec_loadItems hs hm hb, loadItemsOwner_taken hb hfits h1 h8, hload]
    dsimp only
    rw [State.begin_setItems_finish _ _ _ hs.2, itemsReply, be_one]
  · rw [exec_loadItems hs hm hb, loadItemsOwner, loadItemsBlock_count hb, if_pos (by omega)]
    exact congrArg Host.Outcome.next (State.begin_finish _ _ hs.2)

/-! ## The checks of Open Build -/

section
variable {tx : List Byte} {s : State} {p : BuildParams} (hs : s.listens) (hm : s.ctl.mode ≠ .loading) (hp : p.fits)
  (hb : carries tx p.bytes)
include hs hm hp hb

/-- An Open Build that reaches its owner (R14). -/
theorem exec_openBuild : exec (.openBuild tx) s = .next
    ((openBuildOwner p.bytes (s.beginRequest tx.length)).1.finishRequest
      (openBuildOwner p.bytes (s.beginRequest tx.length)).2) :=
  congrArg Host.Outcome.next (State.request_ruled hs hb hp.openBuildLength hm)

theorem exec_openBuild_badBay (h : 8 ≤ p.bay) :
    exec (.openBuild tx) s = .next (s.replied tx.length (bareReply .badArg)) := by
  rw [exec_openBuild hs hm hp hb, openBuildOwner, hp.parseBuild]
  rw [bayOf_of_ge h]
  exact congrArg Host.Outcome.next (State.begin_finish _ _ hs.2)

variable {b : BayNo} (hbay : b.val = p.bay)
include hbay

theorem exec_openBuild_inUse (h : (s.bay b).isSome = true) :
    exec (.openBuild tx) s = .next (s.replied tx.length (bareReply .bayState)) := by
  rw [exec_openBuild hs hm hp hb, openBuildOwner, hp.parseBuild]
  rw [bayOf_of_lt hbay]
  dsimp only
  rw [State.beginRequest_bay, if_pos h]
  exact congrArg Host.Outcome.next (State.begin_finish _ _ hs.2)

variable (hempty : s.bay b = none)
include hempty

omit hs hm hb in
theorem openBuildOwner_checked (n : Nat) : openBuildOwner p.bytes (s.beginRequest n) =
    match s.checkBuild p with
    | some st => (s.beginRequest n, bareReply st)
    | none => ((s.beginRequest n).openBuild b p, okReply (s.openOutput b p)) := by
  rw [openBuildOwner, hp.parseBuild]
  rw [bayOf_of_lt hbay]
  dsimp only
  rw [State.beginRequest_bay, hempty, if_neg (by simp)]
  rfl

theorem exec_openBuild_refused {st : Status} (h : s.checkBuild p = some st) :
    exec (.openBuild tx) s = .next (s.replied tx.length (bareReply st)) := by
  rw [exec_openBuild hs hm hp hb, openBuildOwner_checked hp hbay hempty, h]
  exact congrArg Host.Outcome.next (State.begin_finish _ _ hs.2)

end

/-- Check 5 of R14 as records of the table. -/
theorem State.knowsCodes_iff {s : State} {p : BuildParams} :
    s.knowsCodes p ↔ ∀ e ∈ p.lines, ∀ c ∈ e.primary :: e.substitutes, ∃ r ∈ s.items, r.code = c := by
  simp only [State.knowsCodes, findItem_isSome_eq, List.any_eq_true, beq_iff_eq]

/-- Settles O20, check by check. -/
theorem openBuildRefusesAtTheFirstFailingCheck : Obligations.OpenBuildRefusesAtTheFirstFailingCheck := by
  intro tx p s hs hm hp hb check1 check2 check3 check4 check5 check6 check7 check8 refused
  have hceiling : p.ceiling ≤ 65535 := by
    obtain ⟨-, -, -, hc, -⟩ := hp
    omega
  have hformed : p.wellFormed = true ↔ check4 := BuildParams.wellFormed_iff hceiling
  have hknown : s.knowsCodes p ↔ check5 := State.knowsCodes_iff
  have hrefuse {st : Status} (h1 : check1) (h2 : check2) (h : s.checkBuild p = some st) : refused st := by
    have hlt : p.bay < 8 := by
      have h1' : p.bay ≤ 7 := h1
      omega
    exact exec_openBuild_refused hs hm hp hb (b := ⟨p.bay, hlt⟩) rfl (h2 _ rfl) h
  refine ⟨fun h1 => ?_, fun h1 h2 => ?_, fun h1 h2 h3 => ?_, fun h1 h2 h3 h4 => ?_, fun h1 h2 h3 h4 h5 => ?_,
    fun h1 h2 h3 h4 h5 h6 => ?_, fun h1 h2 h3 h4 h5 h6 h7 => ?_, fun h1 h2 h3 h4 h5 h6 h7 h8 => ?_⟩
  · exact exec_openBuild_badBay hs hm hp hb (by have h1' : ¬ p.bay ≤ 7 := h1; omega)
  · have h2' : ∃ b : BayNo, b.val = p.bay ∧ s.bay b ≠ none := by
      by_contra hno
      exact h2 fun b hb' => by_contra fun hne => hno ⟨b, hb', hne⟩
    obtain ⟨b, hbay, hne⟩ := h2'
    exact exec_openBuild_inUse hs hm hp hb hbay (Option.isSome_iff_ne_none.mpr hne)
  · exact hrefuse h1 h2 (State.checkBuild_closing (not_not.mp h3))
  · exact hrefuse h1 h2 (State.checkBuild_illFormed h3 (by rwa [← Bool.not_eq_true, hformed]))
  · exact hrefuse h1 h2 (State.checkBuild_unknown h3 (hformed.mpr h4) (by rwa [hknown]))
  · exact hrefuse h1 h2 (State.checkBuild_chillDiffers h3 (hformed.mpr h4) (hknown.mpr h5) h6)
  · exact hrefuse h1 h2 (State.checkBuild_poolFull h3 (hformed.mpr h4) (hknown.mpr h5) h6 (not_le.mp h7))
  · refine hrefuse h1 h2 ((State.checkBuild_last h3 (hformed.mpr h4) (hknown.mpr h5) h6 h7).trans (if_pos ?_))
    by_contra hfeasible
    exact h8 (State.feasible_iff.mp hfeasible)

end Sys2Proof.Machine

/-! PROOF. The advertised lines (R24) and the share decision (R110 to R114): the walk take by take, and the cut to the
draw limit. -/

namespace Sys2Proof.Machine

/-! ## Advertised lines -/

theorem isChilled_iff {items : List ItemRecord} {code : ItemCode} : isChilled items code = true ↔
    ∃ r, items.find? (fun x => x.code == code) = some r ∧ r.chilled = true := by
  unfold isChilled findItem
  cases items.find? (fun x => x.code == code) with
  | none => simp
  | some r => simp

theorem Mode.advertises_iff {m : Mode} : m.advertises = true ↔ m = .settling ∨ m = .active ∨ m = .closing := by
  cases m <;> simp [Mode.advertises]

theorem Build.offers_iff {bd : Build} {chilled : Bool} : bd.offers chilled = true ↔
    bd.held = false ∧ (bd.work = .gathering ∧ ¬ chilled = true ∨ bd.work = .chilling ∧ chilled = true) := by
  unfold Build.offers
  cases bd.work <;> simp

/-- A line is advertised when it meets the three conditions of R24. -/
theorem State.advertised_iff {s : State} {bd : Build} {l : Line} :
    advertised s.ctl.mode s.items bd l = true ↔ s.meetsR24 bd l := by
  rw [advertised, Bool.and_eq_true, Bool.and_eq_true, decide_eq_true_eq, Mode.advertises_iff, Build.offers_iff, and_assoc]
  unfold Line.chilled
  rw [isChilled_iff]
  rfl

/-- Its accumulator runs while besides its units pinned are 0 (R48). -/
theorem State.running_iff {s : State} {bd : Build} {l : Line} :
    running s.ctl.mode s.items bd l = true ↔ s.meetsR24 bd l ∧ l.pinned = 0 := by
  rw [running, Bool.and_eq_true, State.advertised_iff, beq_iff_eq]

/-- The lines of one bay, with their places. -/
def State.ownLinesOf (s : State) (b : BayNo) : List OwnLine :=
  match s.bay b with
  | none => []
  | some bd => bd.lines.zipIdx.map fun li => { bay := b, index := li.2, build := bd, line := li.1 }

theorem State.ownLines_eq (s : State) : s.ownLines = allBays.flatMap s.ownLinesOf := rfl

theorem State.mem_ownLinesOf {s : State} {b : BayNo} {o : OwnLine} : o ∈ s.ownLinesOf b ↔
    o.bay = b ∧ s.bay b = some o.build ∧ o.build.lines[o.index]? = some o.line := by
  unfold State.ownLinesOf
  constructor
  · intro ho
    split at ho
    · cases ho
    · next bd hbd =>
      obtain ⟨⟨l, i⟩, hl, rfl⟩ := List.mem_map.mp ho
      exact ⟨rfl, hbd, List.mem_zipIdx_iff_getElem?.mp hl⟩
  · rintro ⟨rfl, hbd, hl⟩
    rw [hbd]
    exact List.mem_map.mpr ⟨(o.line, o.index), List.mem_zipIdx_iff_getElem?.mpr hl, rfl⟩

theorem State.mem_ownLines {s : State} {o : OwnLine} :
    o ∈ s.ownLines ↔ s.bay o.bay = some o.build ∧ o.build.lines[o.index]? = some o.line := by
  simp only [State.ownLines_eq, List.mem_flatMap, mem_allBays, true_and, State.mem_ownLinesOf, exists_eq_left']

theorem allBays_nodup : allBays.Nodup := by decide

theorem State.ownLinesOf_places_nodup (s : State) (b : BayNo) :
    ((s.ownLinesOf b).map fun o => (o.bay, o.index)).Nodup := by
  unfold State.ownLinesOf
  split
  · exact List.nodup_nil
  · next bd _ =>
    have hplaces : (bd.lines.zipIdx.map fun li =>
        ({ bay := b, index := li.2, build := bd, line := li.1 } : OwnLine)).map (fun o => (o.bay, o.index))
        = (bd.lines.zipIdx.map Prod.snd).map fun i => (b, i) := by
      rw [List.map_map, List.map_map]
      rfl
    rw [hplaces]
    refine List.Nodup.map (fun i j hij => (Prod.mk.inj hij).2) ?_
    rw [List.zipIdx_map_snd]
    exact List.nodup_range'

/-- Every line has one place (R6). -/
theorem State.ownLines_places_nodup (s : State) : (s.ownLines.map fun o => (o.bay, o.index)).Nodup := by
  rw [State.ownLines_eq, List.map_flatMap]
  refine List.nodup_flatMap.mpr ⟨fun b _ => s.ownLinesOf_places_nodup b, allBays_nodup.imp fun {b c} hne => ?_⟩
  rw [Function.onFun, List.disjoint_left]
  intro x hx hy
  have hplace {d : BayNo} (h : x ∈ (s.ownLinesOf d).map fun o => (o.bay, o.index)) : x.1 = d := by
    obtain ⟨o, ho, rfl⟩ := List.mem_map.mp h
    exact (State.mem_ownLinesOf.mp ho).1
  exact hne ((hplace hx).symm.trans (hplace hy))

theorem State.advertisedLines_places_nodup (s : State) : (s.advertisedLines.map fun o => (o.bay, o.index)).Nodup :=
  s.ownLines_places_nodup.sublist (List.filter_sublist.map _)

theorem State.mem_advertisedLines {s : State} {o : OwnLine} : o ∈ s.advertisedLines ↔
    s.bay o.bay = some o.build ∧ o.build.lines[o.index]? = some o.line ∧ s.meetsR24 o.build o.line := by
  rw [State.advertisedLines, List.mem_filter, State.mem_ownLines, State.advertised_iff, and_assoc]

/-! ## The walk -/

/-- What each candidate takes, from a place in the list with the units left and the own grants so far (R112, R113). -/
def takesOf : List Candidate → (left granted : Nat) → List Nat
  | [], _, _ => []
  | c :: cs, left, granted =>
    if c.own.isSome = true ∧ 8 ≤ granted then 0 :: takesOf cs left granted
    else
      min c.units left :: takesOf cs (left - min c.units left)
        (granted + if c.own.isSome = true ∧ 0 < min c.units left then 1 else 0)

theorem takesOf_length : ∀ (cs : List Candidate) (left granted : Nat), (takesOf cs left granted).length = cs.length
  | [], _, _ => rfl
  | c :: cs, left, granted => by
    unfold takesOf
    split
    · rw [List.length_cons, takesOf_length cs, List.length_cons]
    · rw [List.length_cons, takesOf_length cs, List.length_cons]

/-- The own entries with a take of at least one unit. -/
def ownGrants (xs : List (Candidate × Nat)) : List (Candidate × Nat) :=
  xs.filter fun x => x.1.own.isSome && decide (0 < x.2)

theorem ownGrants_cons_length (c : Candidate) (t : Nat) (xs : List (Candidate × Nat)) :
    (ownGrants ((c, t) :: xs)).length = (if c.own.isSome = true ∧ 0 < t then 1 else 0) + (ownGrants xs).length := by
  rw [ownGrants, List.filter_cons]
  simp only [Bool.and_eq_true, decide_eq_true_eq]
  split
  · rw [List.length_cons, Nat.add_comm]
    rfl
  · rw [Nat.zero_add]
    rfl

/-- Each candidate takes the lesser of its units and the units left, but a ninth own one takes none (R112, R113). -/
theorem takesOf_getElem? : ∀ (cs : List Candidate) (left granted k : Nat) (c : Candidate), cs[k]? = some c →
    (takesOf cs left granted)[k]? = some
      (if c.own.isSome = true ∧ 8 ≤ granted + (ownGrants ((cs.zip (takesOf cs left granted)).take k)).length then 0
      else min c.units (left - ((takesOf cs left granted).take k).sum))
  | [], _, _, k, c, h => by simp at h
  | d :: cs, left, granted, 0, c, h => by
    obtain rfl : d = c := by simpa using h
    unfold takesOf
    split
    · next hcap => simp [ownGrants, hcap]
    · next hcap => simp [ownGrants, if_neg hcap]
  | d :: cs, left, granted, k + 1, c, h => by
    have hc : cs[k]? = some c := by simpa using h
    unfold takesOf
    split
    · rw [List.getElem?_cons_succ, List.zip_cons_cons, List.take_succ_cons, List.take_succ_cons, List.sum_cons,
        ownGrants_cons_length, takesOf_getElem? cs left granted k c hc]
      simp
    · rw [List.getElem?_cons_succ, List.zip_cons_cons, List.take_succ_cons, List.take_succ_cons, List.sum_cons,
        ownGrants_cons_length, takesOf_getElem? cs _ _ k c hc, Nat.sub_sub, Nat.add_assoc]

/-- The grant of a candidate that takes units, none where it takes none or is a heard one. -/
def grantOf (x : Candidate × Nat) : Option Allocation :=
  x.1.own.bind fun o => if x.2 = 0 then none else some { bay := o.1, line := o.2, granted := x.2 }

theorem walk_zero (cs : List Candidate) (granted : Nat) : walk cs 0 granted = [] := by
  cases cs with
  | nil => rfl
  | cons c cs => exact if_pos rfl

/-- The walk's grants are the own takes (R112). -/
theorem walk_eq_takes : ∀ (cs : List Candidate) (left granted : Nat), (∀ c ∈ cs, c.own.isSome = true → 0 < c.units) →
    walk cs left granted = (cs.zip (takesOf cs left granted)).filterMap grantOf
  | [], _, _, _ => rfl
  | c :: cs, left, granted, h => by
    have hrest (left granted : Nat) := walk_eq_takes cs left granted fun d hd => h d (by simp [hd])
    unfold takesOf
    by_cases hleft : left = 0
    · subst hleft
      have hnone : grantOf (c, 0) = none := by
        unfold grantOf
        cases c.own with
        | none => rfl
        | some o => rfl
      rw [walk_zero]
      split
      · rw [List.zip_cons_cons, List.filterMap_cons_none hnone, ← hrest, walk_zero]
      · rw [List.zip_cons_cons, Nat.min_zero, List.filterMap_cons_none hnone, Nat.zero_sub, ← hrest, walk_zero]
    · rw [walk, if_neg hleft]
      cases ho : c.own with
      | none =>
        have hnone (t : Nat) : grantOf (c, t) = none := by rw [grantOf, ho]; rfl
        simp only [Option.isSome_none, Bool.false_eq_true, false_and, if_false]
        rw [List.zip_cons_cons, List.filterMap_cons_none (hnone _), hrest]
        rfl
      | some o =>
        have hunits : 0 < c.units := h c (by simp) (by rw [ho]; rfl)
        have htake : 0 < min c.units left := by omega
        simp only [Option.isSome_some, true_and, htake, if_true]
        by_cases hcap : granted < maxAllocations
        · have hgrant : grantOf (c, min c.units left)
              = some { bay := o.1, line := o.2, granted := min c.units left } := by
            rw [grantOf, ho]
            exact if_neg (by omega)
          rw [if_pos hcap, if_neg (show ¬ 8 ≤ granted from not_le.mpr hcap), List.zip_cons_cons, List.filterMap_cons_some hgrant, hrest]
        · have hnone : grantOf (c, 0) = none := by rw [grantOf, ho]; rfl
          rw [if_neg hcap, if_pos (show 8 ≤ granted from not_lt.mp hcap), List.zip_cons_cons, List.filterMap_cons_none hnone, hrest]

theorem walk_length : ∀ (cs : List Candidate) (left granted : Nat), granted ≤ 8 →
    (walk cs left granted).length + granted ≤ 8
  | [], _, _, h => by simpa [walk] using h
  | c :: cs, left, granted, h => by
    unfold walk
    split
    · simpa using h
    · split
      · exact walk_length cs _ _ h
      · split
        · next hcap =>
          have hrest := walk_length cs (left - min c.units left) (granted + 1) hcap
          rw [List.length_cons]
          omega
        · exact walk_length cs _ _ h

theorem walk_sum : ∀ (cs : List Candidate) (left granted : Nat), grantedSum (walk cs left granted) ≤ left
  | [], left, _ => Nat.zero_le left
  | c :: cs, left, granted => by
    unfold walk
    split
    · exact Nat.zero_le left
    · split
      · exact (walk_sum cs _ _).trans (Nat.sub_le _ _)
      · split
        · have hrest := walk_sum cs (left - min c.units left) (granted + 1)
          rw [grantedSum, List.map_cons, List.sum_cons]
          unfold grantedSum at hrest
          dsimp only
          omega
        · exact walk_sum cs _ _

/-- Every grant goes to an own candidate and is no more than its units (R112). -/
theorem mem_walk {a : Allocation} : ∀ {cs : List Candidate} {left granted : Nat}, a ∈ walk cs left granted →
    ∃ c ∈ cs, c.own = some (a.bay, a.line) ∧ a.granted ≤ c.units
  | [], _, _, h => by cases h
  | c :: cs, left, granted, h => by
    have hrest {left granted : Nat} (h : a ∈ walk cs left granted) :
        ∃ d ∈ c :: cs, d.own = some (a.bay, a.line) ∧ a.granted ≤ d.units := by
      obtain ⟨d, hd, hown, hle⟩ := mem_walk h
      exact ⟨d, by simp [hd], hown, hle⟩
    unfold walk at h
    split at h
    · cases h
    · split at h
      · exact hrest h
      · next bl hown =>
        split at h
        · obtain rfl | h := List.mem_cons.mp h
          · exact ⟨c, by simp, hown, Nat.min_le_left _ _⟩
          · exact hrest h
        · exact hrest h

/-- The walk's grants are to distinct own candidates, in their order (R112). -/
theorem walk_places_sublist : ∀ (cs : List Candidate) (left granted : Nat),
    ((walk cs left granted).map fun a => (a.bay, a.line)).Sublist (cs.filterMap (·.own))
  | [], _, _ => List.nil_sublist _
  | c :: cs, left, granted => by
    have hrest (left granted : Nat) := walk_places_sublist cs left granted
    unfold walk
    split
    · exact List.nil_sublist _
    · split
      · next hown =>
        rw [List.filterMap_cons_none hown]
        exact hrest _ _
      · next bl hown =>
        rw [List.filterMap_cons_some hown]
        split
        · exact (hrest _ _).cons_cons _
        · exact (hrest _ _).cons _

/-! ## The cut -/

theorem cutUp_sum : ∀ (as : List Allocation) (excess : Nat), grantedSum (cutUp as excess) = grantedSum as - excess
  | [], excess => (Nat.zero_sub excess).symm
  | a :: as, excess => by
    have hcons (b : Allocation) : grantedSum (b :: as) = b.granted + grantedSum as := by
      rw [grantedSum, List.map_cons, List.sum_cons, grantedSum]
    unfold cutUp
    split
    · rw [cutUp_sum as, hcons]
      omega
    · rw [hcons, hcons]
      dsimp only
      omega

/-- The cut takes whole grants from the lowest rank up, and then part of one (R114). -/
theorem cutUp_form : ∀ (as : List Allocation) (excess : Nat), ∃ k, cutUp as excess = as.drop k
    ∨ ∃ a g, as[k]? = some a ∧ 1 ≤ g ∧ g < a.granted ∧ cutUp as excess = { a with granted := g } :: as.drop (k + 1)
  | [], _ => ⟨0, .inl rfl⟩
  | a :: as, excess => by
    unfold cutUp
    split
    · obtain ⟨k, h | ⟨b, g, hb, h1, hlt, h⟩⟩ := cutUp_form as (excess - a.granted)
      · exact ⟨k + 1, .inl h⟩
      · exact ⟨k + 1, .inr ⟨b, g, hb, h1, hlt, h⟩⟩
    · next hnot =>
      obtain rfl | hpos := Nat.eq_zero_or_pos excess
      · exact ⟨0, .inl rfl⟩
      · exact ⟨0, .inr ⟨a, a.granted - excess, rfl, by omega, by omega, rfl⟩⟩

theorem cutToLimit_sum (limit : Nat) (as : List Allocation) :
    grantedSum (cutToLimit limit as) = min limit (grantedSum as) := by
  have hreverse (xs : List Allocation) : grantedSum xs.reverse = grantedSum xs := by
    rw [grantedSum, List.map_reverse, List.sum_reverse, grantedSum]
  unfold cutToLimit
  split
  · rw [hreverse, cutUp_sum, hreverse]
    omega
  · omega

/-- What the cut leaves: the first grants whole, and of the next one a part or none (R114). -/
theorem cutToLimit_form (limit : Nat) (as : List Allocation) : ∃ k, cutToLimit limit as = as.take k
    ∨ ∃ a g, as[k]? = some a ∧ 1 ≤ g ∧ g < a.granted ∧ cutToLimit limit as = as.take k ++ [{ a with granted := g }] := by
  unfold cutToLimit
  split
  · obtain ⟨k, h | ⟨a, g, ha, h1, hlt, h⟩⟩ := cutUp_form as.reverse (grantedSum as - limit)
    · exact ⟨as.length - k, .inl (by rw [h, List.drop_reverse, List.reverse_reverse])⟩
    · have hk : k < as.length := by
        obtain ⟨hk, -⟩ := List.getElem?_eq_some_iff.mp ha
        simpa using hk
      refine ⟨as.length - 1 - k, .inr ⟨a, g, ?_, h1, hlt, ?_⟩⟩
      · rwa [List.getElem?_reverse hk] at ha
      · rw [h, List.reverse_cons, List.drop_reverse, List.reverse_reverse, Nat.sub_sub, Nat.add_comm 1 k]
  · exact ⟨as.length, .inl (List.take_length).symm⟩

/-- Every grant after the cut is one before it, or part of one (R114). -/
theorem cutToLimit_places_sublist (limit : Nat) (as : List Allocation) :
    ((cutToLimit limit as).map fun a => (a.bay, a.line)).Sublist (as.map fun a => (a.bay, a.line)) := by
  obtain ⟨k, h | ⟨a, g, ha, -, -, h⟩⟩ := cutToLimit_form limit as
  · rw [h]
    exact (List.take_sublist k as).map _
  · have htake : ((as.take k ++ [{ a with granted := g }]).map fun a : Allocation => (a.bay, a.line))
        = ((as.take (k + 1)).map fun a => (a.bay, a.line)) := by
      rw [List.take_add_one, ha, List.map_append, List.map_append]
      rfl
    rw [h, htake]
    exact (List.take_sublist _ as).map _

theorem mem_cutToLimit {limit : Nat} {as : List Allocation} {a : Allocation} (h : a ∈ cutToLimit limit as) :
    ∃ b ∈ as, b.bay = a.bay ∧ b.line = a.line ∧ a.granted ≤ b.granted ∧ (1 ≤ b.granted → 1 ≤ a.granted) := by
  obtain ⟨k, hcut | ⟨b, g, hb, h1, hlt, hcut⟩⟩ := cutToLimit_form limit as
  · rw [hcut] at h
    exact ⟨a, List.mem_of_mem_take h, rfl, rfl, le_rfl, id⟩
  · rw [hcut] at h
    obtain h | h := List.mem_append.mp h
    · exact ⟨a, List.mem_of_mem_take h, rfl, rfl, le_rfl, id⟩
    · obtain rfl := List.mem_singleton.mp h
      exact ⟨b, List.mem_of_getElem? hb, rfl, rfl, hlt.le, fun _ => h1⟩

/-! ## The share decision -/

section
variable (s : State) (item : ItemCode)

theorem State.candidates_perm : (s.candidates item).Perm (s.ownCandidates item ++ s.heardCandidates item) :=
  rankSort_perm _ _

/-- An own candidate is an advertised line that wants the item (R111). -/
theorem State.own_of_mem_candidates {c : Candidate} (h : c ∈ s.candidates item) {bl : BayNo × Nat}
    (hown : c.own = some bl) : ∃ o ∈ s.advertisedLines, o.bay = bl.1 ∧ o.index = bl.2 ∧ o.line.activeItem = item
      ∧ c.units = o.line.needed := by
  rw [(s.candidates_perm item).mem_iff, List.mem_append] at h
  obtain h | h := h
  · obtain ⟨o, ho, rfl⟩ := List.mem_map.mp h
    obtain ⟨hadv, hitem⟩ := List.mem_filter.mp ho
    cases hown
    exact ⟨o, hadv, rfl, rfl, beq_iff_eq.mp hitem, rfl⟩
  · obtain ⟨e, -, rfl⟩ := List.mem_map.mp h
    cases hown

theorem State.candidates_units_pos : ∀ c ∈ s.candidates item, c.own.isSome = true → 0 < c.units := by
  intro c hc hown
  obtain ⟨bl, hbl⟩ := Option.isSome_iff_exists.mp hown
  obtain ⟨o, ho, -, -, -, hunits⟩ := s.own_of_mem_candidates item hc hbl
  obtain ⟨-, -, -, hneeded, -⟩ := State.mem_advertisedLines.mp ho
  rw [hunits]
  exact hneeded

theorem State.candidates_places_nodup : ((s.candidates item).filterMap (·.own)).Nodup := by
  have hheard : (s.heardCandidates item).filterMap (·.own) = [] := by
    rw [State.heardCandidates, List.filterMap_map]
    exact List.filterMap_eq_nil_iff.mpr fun _ _ => rfl
  have hown : (s.ownCandidates item).filterMap (·.own)
      = (s.advertisedLines.filter fun o => o.line.activeItem == item).map fun o => (o.bay, o.index) := by
    rw [State.ownCandidates, List.filterMap_map]
    change List.filterMap (some ∘ fun o : OwnLine => (o.bay, o.index)) _ = _
    rw [List.filterMap_eq_map]
  rw [((s.candidates_perm item).filterMap _).nodup_iff, List.filterMap_append, hheard, hown, List.append_nil]
  exact s.advertisedLines_places_nodup.sublist (List.filter_sublist.map _)

theorem State.walk_places_nodup (left granted : Nat) :
    ((walk (s.candidates item) left granted).map fun a => (a.bay, a.line)).Nodup :=
  (s.candidates_places_nodup item).sublist (walk_places_sublist _ _ _)

theorem State.walk_granted_pos (left granted : Nat) : ∀ a ∈ walk (s.candidates item) left granted, 1 ≤ a.granted := by
  intro a ha
  rw [walk_eq_takes _ _ _ (s.candidates_units_pos item), List.mem_filterMap] at ha
  obtain ⟨⟨c, t⟩, -, hgrant⟩ := ha
  unfold grantOf at hgrant
  obtain ⟨o, -, hsome⟩ := Option.bind_eq_some_iff.mp hgrant
  dsimp only at hsome
  split at hsome
  · cases hsome
  · cases hsome
    dsimp only
    omega

end

section
variable (s : State) (e : ToteEntry)

theorem State.share_places_nodup : ((s.share e).map fun a => (a.bay, a.line)).Nodup :=
  (s.walk_places_nodup e.item _ _).sublist (cutToLimit_places_sublist _ _)

/-- Every allocation is of at least one unit, to an advertised line that wants the item and needs as many (R112). -/
theorem State.mem_share {a : Allocation} (h : a ∈ s.share e) : 1 ≤ a.granted
    ∧ ∃ o ∈ s.advertisedLines, o.bay = a.bay ∧ o.index = a.line ∧ o.line.activeItem = e.item
      ∧ a.granted ≤ o.line.needed := by
  obtain ⟨b, hb, hbay, hline, hle, hpos⟩ := mem_cutToLimit h
  obtain ⟨c, hc, hown, hunits⟩ := mem_walk hb
  obtain ⟨o, ho, hobay, hoindex, hitem, hneeded⟩ := s.own_of_mem_candidates e.item hc hown
  refine ⟨hpos (s.walk_granted_pos e.item _ _ b hb), o, ho, hobay.trans hbay, hoindex.trans hline, hitem, ?_⟩
  omega

end

theorem ToteEntry.available_eq (e : ToteEntry) :
    e.available = if e.uncertain = true then e.remaining - e.remaining / 2 else e.remaining := by
  unfold ToteEntry.available
  split
  · omega
  · rfl

/-- Settles O33: the walk by its takes, the cut by what it leaves, and the advertised lines by R24. -/
theorem shareGrantsWithinNeedLimitAndCount : Obligations.ShareGrantsWithinNeedLimitAndCount := by
  intro s e available walked own heard grants
  have havailable : e.available = available := e.available_eq
  have hshare : grants = cutToLimit s.loader.active.drawLimit walked := by
    change s.share e = _
    rw [State.share, havailable]
  have hsum : (grants.map (·.granted)).sum = min s.loader.active.drawLimit (walked.map (·.granted)).sum := by
    rw [hshare]
    exact cutToLimit_sum _ _
  refine ⟨⟨s.candidates e.item, takesOf (s.candidates e.item) available 0, s.candidates_perm e.item,
    rankSort_ranked _ _, takesOf_length _ _ _, fun k c hc => ?_, ?_⟩, ?_, fun a ha => s.mem_share e ha,
    s.share_places_nodup e, hsum, ?_, ?_, ?_, fun o => State.mem_advertisedLines⟩
  · intro grants'
    have htake := takesOf_getElem? (s.candidates e.item) available 0 k c hc
    rw [Nat.zero_add] at htake
    exact htake
  · exact walk_eq_takes _ _ _ (s.candidates_units_pos e.item)
  · have hplaces := (cutToLimit_places_sublist s.loader.active.drawLimit walked).length_le
    have hlength := walk_length (s.candidates e.item) available 0 (by decide)
    rw [List.length_map, List.length_map] at hplaces
    rw [hshare]
    exact hplaces.trans hlength
  · have hle := walk_sum (s.candidates e.item) available 0
    rw [hsum]
    exact (Nat.min_le_right _ _).trans hle
  · rw [hshare]
    exact cutToLimit_form _ _
  · exact List.Nodup.of_map _ s.advertisedLines_places_nodup

end Sys2Proof.Machine

/-! PROOF. What an owner does between the beginning of a request and its answer does not depend on the transaction under
way (R173): every operation on the rest of the part commutes with a change of the reply buffer, READY and MISO, so a
request is its owner's operation and then `replied`. -/

namespace Sys2Proof.Machine

/-! ## Operations blind to the transaction -/

/-- A port with the transaction under way, the reply buffer, READY and MISO of another. -/
def BenchPort.withReply (p q : BenchPort) : BenchPort :=
  { p with state := q.state, reply := q.reply, ready := q.ready, miso := q.miso }

/-- `s` with the transaction under way, the reply buffer, READY and MISO of `q`. -/
def State.withReply (s : State) (q : BenchPort) : State := s.setPort (s.port.withReply q)

@[simp] theorem State.withReply_clock (s : State) (q : BenchPort) : (s.withReply q).clock = s.clock := rfl
@[simp] theorem State.withReply_ctl (s : State) (q : BenchPort) : (s.withReply q).ctl = s.ctl := rfl
@[simp] theorem State.withReply_loader (s : State) (q : BenchPort) : (s.withReply q).loader = s.loader := rfl
@[simp] theorem State.withReply_items (s : State) (q : BenchPort) : (s.withReply q).items = s.items := rfl
@[simp] theorem State.withReply_li (s : State) (q : BenchPort) : (s.withReply q).li = s.li := rfl
@[simp] theorem State.withReply_peers (s : State) (q : BenchPort) : (s.withReply q).peers = s.peers := rfl
@[simp] theorem State.withReply_totes (s : State) (q : BenchPort) : (s.withReply q).totes = s.totes := rfl
@[simp] theorem State.withReply_lane (s : State) (q : BenchPort) : (s.withReply q).lane = s.lane := rfl
@[simp] theorem State.withReply_draws (s : State) (q : BenchPort) : (s.withReply q).draws = s.draws := rfl
@[simp] theorem State.withReply_bay (s : State) (q : BenchPort) (b : BayNo) : (s.withReply q).bay b = s.bay b := rfl
@[simp] theorem State.withReply_waitLimit (s : State) (q : BenchPort) : (s.withReply q).waitLimit = s.waitLimit := rfl
@[simp] theorem State.withReply_freshSet (s : State) (q : BenchPort) : (s.withReply q).freshSet = s.freshSet := rfl
@[simp] theorem State.withReply_trialsIn (s : State) (q : BenchPort) : (s.withReply q).trialsIn = s.trialsIn := rfl
@[simp] theorem State.withReply_allEmpty (s : State) (q : BenchPort) : (s.withReply q).allEmpty = s.allEmpty := rfl
@[simp] theorem State.withReply_toteEntry (s : State) (q : BenchPort) : (s.withReply q).toteEntry = s.toteEntry := rfl

@[simp] theorem State.withReply_newBuild (s : State) (q : BenchPort) : (s.withReply q).newBuild = s.newBuild := rfl
@[simp] theorem State.withReply_newChillExpiry (s : State) (q : BenchPort) :
    (s.withReply q).newChillExpiry = s.newChillExpiry := rfl

@[simp] theorem State.setBays_withReply (s : State) (v : Vector (Option Build) 8) (q : BenchPort) :
    (s.withReply q).setBays v = (s.setBays v).withReply q := rfl
@[simp] theorem State.setBay_withReply (s : State) (b : BayNo) (x : Option Build) (q : BenchPort) :
    (s.withReply q).setBay b x = (s.setBay b x).withReply q := rfl
@[simp] theorem State.setLi_withReply (s : State) (v : LineInterface) (q : BenchPort) :
    (s.withReply q).setLi v = (s.setLi v).withReply q := rfl
@[simp] theorem State.setLane_withReply (s : State) (v : Lane) (q : BenchPort) :
    (s.withReply q).setLane v = (s.setLane v).withReply q := rfl
@[simp] theorem State.setTotes_withReply (s : State) (v : ToteTracker) (q : BenchPort) :
    (s.withReply q).setTotes v = (s.setTotes v).withReply q := rfl
@[simp] theorem State.setDraws_withReply (s : State) (v : Nat) (q : BenchPort) :
    (s.withReply q).setDraws v = (s.setDraws v).withReply q := rfl
@[simp] theorem State.setQueue_withReply (s : State) (v : List Notice) (q : BenchPort) :
    (s.withReply q).setQueue v = (s.setQueue v).withReply q := rfl
@[simp] theorem State.countLine_withReply (s : State) (f : LineCounters → LineCounters) (q : BenchPort) :
    (s.withReply q).countLine f = (s.countLine f).withReply q := rfl
@[simp] theorem State.setTable_withReply (s : State) (v : List ToteEntry) (q : BenchPort) :
    (s.withReply q).setTable v = (s.setTable v).withReply q := rfl
@[simp] theorem State.withMode_withReply (s : State) (m : Mode) (q : BenchPort) :
    (s.withReply q).withMode m = (s.withMode m).withReply q := rfl
@[simp] theorem State.setFlag_withReply (s : State) (f : EventFlag) (q : BenchPort) :
    (s.withReply q).setFlag f = (s.setFlag f).withReply q := rfl
@[simp] theorem State.record_withReply (s : State) (k : DeviationKind) (q : BenchPort) :
    (s.withReply q).record k = (s.record k).withReply q := rfl
@[simp] theorem State.setLaneQueue_withReply (s : State) (v : List LaneEntry) (q : BenchPort) :
    (s.withReply q).setLaneQueue v = (s.setLaneQueue v).withReply q := rfl
@[simp] theorem State.pulseMerge_withReply (s : State) (q : BenchPort) :
    (s.withReply q).pulseMerge = s.pulseMerge.withReply q := rfl

/-- A fold of operations that commute with the change commutes with it. -/
theorem State.foldl_withReply {α : Type} {f : State → α → State} {q : BenchPort}
    (hf : ∀ (s : State) (x : α), f (s.withReply q) x = (f s x).withReply q) :
    ∀ (xs : List α) (s : State), xs.foldl f (s.withReply q) = (xs.foldl f s).withReply q
  | [], _ => rfl
  | x :: xs, s => by rw [List.foldl_cons, List.foldl_cons, hf, State.foldl_withReply hf xs]

/-- A choice that commutes with the change in both its cases. -/
theorem State.ite_withReply {c c' : Prop} [Decidable c] [Decidable c'] {q : BenchPort} {x y x' y' : State}
    (hc : c' ↔ c) (hx : x' = x.withReply q) (hy : y' = y.withReply q) :
    (if c' then x' else y') = (if c then x else y).withReply q := by
  by_cases h : c
  · rw [if_pos (hc.mpr h), if_pos h, hx]
  · rw [if_neg (mt hc.mp h), if_neg h, hy]

/-! ## The shared operations -/

section
variable (s : State) (q : BenchPort)

@[simp] theorem State.offerMarker_withReply : (s.withReply q).offerMarker = s.offerMarker.withReply q :=
  State.ite_withReply Iff.rfl rfl rfl

@[simp] theorem State.changeCheck_withReply : (s.withReply q).changeCheck = s.changeCheck.withReply q :=
  State.ite_withReply Iff.rfl (s.offerMarker_withReply q) rfl

@[simp] theorem State.offerTally_withReply (p : Payload) :
    (s.withReply q).offerTally p = (s.offerTally p).withReply q := by
  refine State.ite_withReply Iff.rfl rfl ?_
  rw [State.withReply_li]
  cases joinQueue s.li.queue p <;> rfl

@[simp] theorem State.modifyBuild_withReply (b : BayNo) (f : Build → Build) :
    (s.withReply q).modifyBuild b f = (s.modifyBuild b f).withReply q := by
  simp only [State.modifyBuild, State.withReply_bay]
  cases s.bay b <;> rfl

@[simp] theorem State.modifyLine_withReply (b : BayNo) (i : Nat) (f : Line → Line) :
    (s.withReply q).modifyLine b i f = (s.modifyLine b i f).withReply q := s.modifyBuild_withReply q b _

@[simp] theorem State.evalBays_withReply (bs : List BayNo) :
    (s.withReply q).evalBays bs = (s.evalBays bs).withReply q :=
  State.foldl_withReply (fun t b => t.modifyBuild_withReply q b _) bs s

@[simp] theorem State.switchLine_withReply (b : BayNo) (i p : Nat) (bd : Build) (l : Line) :
    (s.withReply q).switchLine b i p bd l = (s.switchLine b i p bd l).withReply q := by
  simp only [State.switchLine, State.withReply_clock, State.modifyLine_withReply, State.record_withReply,
    State.changeCheck_withReply]

@[simp] theorem State.noFit_withReply (b : BayNo) (i : Nat) (bd : Build) (l : Line) :
    (s.withReply q).noFit b i bd l = (s.noFit b i bd l).withReply q := by
  simp only [State.noFit, State.modifyLine_withReply, State.record_withReply]
  split_ifs <;> rfl

@[simp] theorem State.trial_withReply (b : BayNo) (i : Nat) : (s.withReply q).trial b i = (s.trial b i).withReply q := by
  simp only [State.trial, State.withReply_bay, State.withReply_items, State.switchLine_withReply,
    State.noFit_withReply]
  cases s.bay b with
  | none => rfl
  | some bd =>
    cases h : bd.lines[i]? with
    | none => simp only [h]
    | some l =>
      simp only [h]
      cases l.candidates.find? (fits s.items bd i) <;> rfl

@[simp] theorem State.trials_withReply (xs : List (BayNo × Nat)) :
    (s.withReply q).trials xs = (s.trials xs).withReply q := by
  match xs with
  | [] => rfl
  | [x] => exact s.trial_withReply q x.1 x.2
  | x :: y :: rest =>
    exact State.foldl_withReply (fun t x => t.trial_withReply q x.1 x.2) (rankSort (trialKey s.draws) (x :: y :: rest))
      (s.setDraws (s.draws + 1))

@[simp] theorem State.reevaluate_withReply (bs : List BayNo) :
    (s.withReply q).reevaluate bs = (s.reevaluate bs).withReply q := by
  simp only [State.reevaluate, State.withReply_trialsIn, State.evalBays_withReply, State.trials_withReply]

/-! ## Modes, bays and the lane -/

@[simp] theorem State.changeMode_withReply (m : Mode) (bySetMode : Bool) :
    (s.withReply q).changeMode m bySetMode = (s.changeMode m bySetMode).withReply q := by
  simp only [State.changeMode, State.withMode_withReply, State.reevaluate_withReply, State.changeCheck_withReply,
    State.setFlag_withReply]
  split_ifs <;> rfl

@[simp] theorem State.closingCheck_withReply : (s.withReply q).closingCheck = s.closingCheck.withReply q := by
  simp only [State.closingCheck, State.withReply_ctl, State.withReply_allEmpty, State.withReply_lane,
    State.changeMode_withReply]
  split_ifs <;> rfl

@[simp] theorem State.returnToEmpty_withReply (b : BayNo) :
    (s.withReply q).returnToEmpty b = (s.returnToEmpty b).withReply q := by
  simp only [State.returnToEmpty, State.setBay_withReply, State.changeCheck_withReply, State.closingCheck_withReply]

@[simp] theorem State.takeDeadline_withReply (b : BayNo) :
    (s.withReply q).takeDeadline b = (s.takeDeadline b).withReply q := by
  simp only [State.takeDeadline, State.withReply_bay, State.setBay_withReply, State.record_withReply]
  cases s.bay b with
  | none => rfl
  | some bd => dsimp only; split_ifs <;> rfl

@[simp] theorem State.afterBayChanges_withReply (bs : List BayNo) :
    (s.withReply q).afterBayChanges bs = (s.afterBayChanges bs).withReply q := by
  simp only [State.afterBayChanges, State.reevaluate_withReply, State.changeCheck_withReply]
  split_ifs <;> rfl

@[simp] theorem State.releaseBay_withReply (b : BayNo) :
    (s.withReply q).releaseBay b = (s.releaseBay b).withReply q := by
  simp only [State.releaseBay, State.withReply_bay, State.withReply_newChillExpiry, State.setBay_withReply,
    State.setFlag_withReply]
  cases s.bay b with
  | none => rfl
  | some bd => dsimp only; split_ifs <;> rfl

@[simp] theorem State.acceptMode_withReply (m : Mode) :
    (s.withReply q).acceptMode m = (s.acceptMode m).withReply q := by
  simp only [State.acceptMode, State.withReply_ctl, State.changeMode_withReply, State.closingCheck_withReply]
  split_ifs <;> rfl

@[simp] theorem State.place_withReply (x : Allocation × Nat) : (s.withReply q).place x = (s.place x).withReply q :=
  s.modifyLine_withReply q _ _ _

@[simp] theorem State.checkCompletion_withReply (b : BayNo) :
    (s.withReply q).checkCompletion b = (s.checkCompletion b).withReply q := by
  simp only [State.checkCompletion, State.withReply_bay]
  cases s.bay b with
  | none => rfl
  | some bd => exact State.ite_withReply Iff.rfl rfl rfl

@[simp] theorem State.bayStep_withReply (xs : List (Allocation × Nat)) (b : BayNo) :
    State.bayStep xs (s.withReply q) b = (State.bayStep xs s b).withReply q := by
  simp only [State.bayStep, State.withReply_items, State.withReply_newChillExpiry, State.modifyBuild_withReply,
    State.checkCompletion_withReply]

@[simp] theorem State.placePick_withReply (e : LaneEntry) (taken : List Nat) :
    (s.withReply q).placePick e taken = (s.placePick e taken).withReply q := by
  rw [State.placePick, State.foldl_withReply fun t x => t.place_withReply q x]
  exact State.foldl_withReply (fun t b => t.bayStep_withReply q _ b) _ _

@[simp] theorem State.settle_withReply (l : LaneEntry) (f : ToteEntry → ToteEntry) :
    (s.withReply q).settle l f = (s.settle l f).withReply q := by
  simp only [State.settle, State.withReply_toteEntry, State.withReply_totes, State.setTable_withReply,
    State.offerTally_withReply]
  cases s.toteEntry l.tote <;> rfl

@[simp] theorem State.settleShort_withReply (e : LaneEntry) (taken : Nat) :
    (s.withReply q).settleShort e taken = (s.settleShort e taken).withReply q := by
  simp only [State.settleShort, State.withReply_clock, State.settle_withReply, State.record_withReply]
  split_ifs <;> rfl

@[simp] theorem State.endDeparture_withReply (l : LaneEntry) :
    (s.withReply q).endDeparture l = (s.endDeparture l).withReply q := by
  simp only [State.endDeparture, State.withReply_lane, State.setLaneQueue_withReply, State.reevaluate_withReply,
    State.changeCheck_withReply, State.closingCheck_withReply]

@[simp] theorem State.confirmPick_withReply (e : LaneEntry) (taken : List Nat) :
    (s.withReply q).confirmPick e taken = (s.confirmPick e taken).withReply q := by
  simp only [State.confirmPick, State.placePick_withReply, State.settleShort_withReply, State.pulseMerge_withReply,
    State.endDeparture_withReply]

@[simp] theorem State.unpinAll_withReply (as : List Allocation) :
    (s.withReply q).unpinAll as = (s.unpinAll as).withReply q :=
  State.foldl_withReply (fun t a => t.modifyLine_withReply q a.bay a.line _) as s

@[simp] theorem State.returnTote_withReply (e : LaneEntry) :
    (s.withReply q).returnTote e = (s.returnTote e).withReply q := by
  simp only [State.returnTote, State.withReply_clock, State.unpinAll_withReply, State.settle_withReply,
    State.pulseMerge_withReply, State.endDeparture_withReply]

@[simp] theorem State.openBuild_withReply (b : BayNo) (p : BuildParams) :
    (s.withReply q).openBuild b p = (s.openBuild b p).withReply q := by
  simp only [State.openBuild, State.deadlineAtOnce, State.withReply_newBuild, State.setBay_withReply,
    State.evalBays_withReply, State.withReply_clock, State.takeDeadline_withReply]
  split_ifs <;> exact State.changeCheck_withReply _ q

end

/-! ## The answer -/

/-- The beginning of a request on an IDLE port changes only the transaction under way (R173). -/
theorem State.beginRequest_eq_withReply {s : State} (hidle : s.port.state = .idle) (n : Nat) :
    s.beginRequest n = s.withReply
      { s.port with state := .handling, reply := none, ready := false, miso := 0x5A#8 :: List.replicate n 0#8 } := by
  rw [State.beginRequest, hidle]
  rfl

/-- The answer put on what the transaction under way was set to (R173). -/
theorem State.withReply_finishRequest (t : State) (p : BenchPort) (n : Nat) (r : Reply) :
    (t.withReply { p with state := .handling, reply := none, ready := false, miso := 0x5A#8 :: List.replicate n 0#8
      }).finishRequest r = t.replied n r := rfl

/-- A request whose owner's operation commutes with the transaction under way is that operation and its answer
(R173). -/
theorem State.answered {f : State → State} (hf : ∀ (s : State) (q : BenchPort), f (s.withReply q) = (f s).withReply q)
    {s : State} (hidle : s.port.state = .idle) (n : Nat) (r : Reply) :
    (f (s.beginRequest n)).finishRequest r = (f s).replied n r := by
  rw [State.beginRequest_eq_withReply hidle, hf, State.withReply_finishRequest]

end Sys2Proof.Machine

/-! PROOF. The evaluation of the accumulators written out (R48): which bays it changes and how, which trials it starts,
and that it starts none where no accumulator may run; the bays as one vector; the CLOSING check (R167). -/

namespace Sys2Proof.Machine

/-! ## The bays as a vector -/

@[simp] theorem State.bay_setBays_ofFn (s : State) (f : BayNo → Option Build) (b : BayNo) :
    (s.setBays (Vector.ofFn f)).bay b = f b := by
  simp [State.bay]

/-- A state that differs in its bays alone is the other with those bays. -/
theorem State.eq_setBays_ofFn {s t : State} (h : s.changedOnly t [.bays]) {f : BayNo → Option Build}
    (hbays : ∀ b, t.bay b = f b) : t = s.setBays (Vector.ofFn f) := by
  have hvector : t.bays = Vector.ofFn f := by
    ext k hk : 1
    simpa [State.bay] using hbays ⟨k, hk⟩
  have hpending : t.pending = s.pending := h .pending (by simp)
  have hreset : t.resetLow = s.resetLow := h .resetLow (by simp)
  have hclock : t.clock = s.clock := h .clock (by simp)
  have hctl : t.ctl = s.ctl := h .ctl (by simp)
  have hloader : t.loader = s.loader := h .loader (by simp)
  have hitems : t.items = s.items := h .items (by simp)
  have hli : t.li = s.li := h .li (by simp)
  have hpeers : t.peers = s.peers := h .peers (by simp)
  have htotes : t.totes = s.totes := h .totes (by simp)
  have hlane : t.lane = s.lane := h .lane (by simp)
  have hdev : t.dev = s.dev := h .dev (by simp)
  have hport : t.port = s.port := h .port (by simp)
  have hdraws : t.draws = s.draws := h .draws (by simp)
  cases t
  simp only at *
  subst_vars
  rfl

/-- Two ways to the same bays are the same. -/
theorem State.setBays_ofFn_congr (s : State) {f g : BayNo → Option Build} (h : ∀ b, f b = g b) :
    s.setBays (Vector.ofFn f) = s.setBays (Vector.ofFn g) := by
  rw [show f = g from funext h]

theorem State.setBay_eq_ofFn (s : State) (b : BayNo) (x : Option Build) :
    s.setBay b x = s.setBays (Vector.ofFn fun c : Fin 8 => if c = b then x else s.bay c) :=
  State.eq_setBays_ofFn (s.setBay_changedOnly b x) fun c => s.bay_setBay b c x

/-! ## The evaluation -/

/-- A line whose accumulator is stopped at now (R47). -/
def Line.stoppedAt (now : Nat) (l : Line) : Line := { l with wait := { stored := l.wait.value now, runStart := none } }

/-- A build whose accumulators are stopped at now (R47, R48). -/
def Build.stoppedAt (now : Nat) (bd : Build) : Build := { bd with lines := bd.lines.map (Line.stoppedAt now) }

theorem evalLine_of_running {mode : Mode} {items : List ItemRecord} {now : Nat} {bd : Build} {l : Line}
    (h : running mode items bd l = true) :
    evalLine mode items now bd l
      = { l with wait := { stored := l.wait.stored, runStart := some (l.wait.runStart.getD now) } } := by
  obtain ⟨_, _, _, _, _, _, _, _, ⟨stored, runStart⟩, _, _⟩ := l
  unfold evalLine
  rw [if_pos h]
  cases runStart <;> rfl

theorem evalLine_of_not_running {mode : Mode} {items : List ItemRecord} {now : Nat} {bd : Build} {l : Line}
    (h : running mode items bd l = false) : evalLine mode items now bd l = l.stoppedAt now := by
  unfold evalLine
  rw [h]
  rfl

theorem running_of_not_offers {mode : Mode} {items : List ItemRecord} {bd : Build} (l : Line)
    (h : mode.advertises = false ∨ bd.held = true) : running mode items bd l = false := by
  rcases h with h | h
  · simp [running, advertised, h]
  · simp [running, advertised, Build.offers, h]

/-- No accumulator runs on a build that offers nothing (R24, R48). -/
theorem evalBuild_of_not_offers {mode : Mode} {items : List ItemRecord} {now : Nat} {bd : Build}
    (h : mode.advertises = false ∨ bd.held = true) : evalBuild mode items now bd = bd.stoppedAt now := by
  rw [evalBuild, Build.stoppedAt]
  exact congrArg (fun ls => { bd with lines := ls })
    (List.map_congr_left fun l _ => evalLine_of_not_running (running_of_not_offers l h))

/-- The evaluation of some bays: each takes `evalBuild`, and no other changes (R48). -/
theorem State.bay_evalBays (c : BayNo) : ∀ (bs : List BayNo) (s : State), bs.Nodup →
    (s.evalBays bs).bay c = if c ∈ bs then (s.bay c).map (evalBuild s.ctl.mode s.items s.clock) else s.bay c
  | [], _, _ => rfl
  | b :: bs, s, h => by
    obtain ⟨hb, hbs⟩ := List.nodup_cons.mp h
    have hc := s.modifyBuild_changedOnly b (evalBuild s.ctl.mode s.items s.clock)
    have hm : (s.modifyBuild b (evalBuild s.ctl.mode s.items s.clock)).ctl = s.ctl := hc .ctl (by simp)
    have hi : (s.modifyBuild b (evalBuild s.ctl.mode s.items s.clock)).items = s.items := hc .items (by simp)
    have hk : (s.modifyBuild b (evalBuild s.ctl.mode s.items s.clock)).clock = s.clock := hc .clock (by simp)
    have hrest := State.bay_evalBays c bs (s.modifyBuild b (evalBuild s.ctl.mode s.items s.clock)) hbs
    rw [hm, hi, hk, s.evalBay_bay b c] at hrest
    refine (show (s.evalBays (b :: bs)).bay c = _ from hrest).trans ?_
    by_cases hcb : c = b
    · subst hcb
      rw [if_neg hb, if_pos rfl, if_pos (List.mem_cons_self ..)]
    · rw [if_neg hcb]
      by_cases hmem : c ∈ bs
      · rw [if_pos hmem, if_pos (List.mem_cons_of_mem _ hmem)]
      · rw [if_neg hmem, if_neg (by simp [hcb, hmem])]

/-- The bays after an evaluation, as one vector. -/
theorem State.evalBays_eq (s : State) {bs : List BayNo} (h : bs.Nodup) :
    s.evalBays bs = s.setBays (Vector.ofFn fun b : Fin 8 =>
      if b ∈ bs then (s.bay b).map (evalBuild s.ctl.mode s.items s.clock) else s.bay b) :=
  State.eq_setBays_ofFn (s.evalBays_changedOnly bs) fun c => State.bay_evalBays c bs s h

/-- An evaluation is what R48 says of each accumulator. -/
theorem State.evalBays_eq_evaluated (s : State) {bs : List BayNo} (h : bs.Nodup) : s.evalBays bs = s.evaluated bs := by
  rw [s.evalBays_eq h, State.evaluated]
  refine s.setBays_ofFn_congr fun b => ?_
  cases s.bay b with
  | none => simp
  | some bd =>
    by_cases hb : b ∈ bs
    · simp only [if_pos hb, Option.map_some, evalBuild, Option.some.injEq, Build.mk.injEq, true_and, and_true]
      refine List.map_congr_left fun l _ => ?_
      by_cases hrun : running s.ctl.mode s.items bd l = true
      · rw [evalLine_of_running hrun, if_pos hrun]
      · rw [evalLine_of_not_running (Bool.not_eq_true _ ▸ hrun), if_neg hrun]
        rfl
    · simp only [if_neg hb, Option.map_some]

/-! ## The trials an evaluation starts -/

theorem State.mem_trialsIn {s : State} {b c : BayNo} {i : Nat} :
    (c, i) ∈ s.trialsIn b ↔ c = b ∧ ∃ bd l, s.bay b = some bd ∧ bd.lines[i]? = some l
      ∧ startsTrial s.ctl.mode s.items s.waitLimit s.clock bd l = true := by
  unfold State.trialsIn
  cases s.bay b with
  | none => simp
  | some bd =>
    simp only [List.mem_map, List.mem_filter, List.mk_mem_zipIdx_iff_getElem?, Prod.exists, Prod.mk.injEq,
      Option.some.injEq]
    constructor
    · rintro ⟨l, k, ⟨hl, hstarts⟩, rfl, rfl⟩
      exact ⟨rfl, bd, l, rfl, hl, hstarts⟩
    · rintro ⟨rfl, _, l, rfl, hl, hstarts⟩
      exact ⟨l, i, ⟨hl, hstarts⟩, rfl, rfl⟩

theorem State.trialsIn_nodup (s : State) (b : BayNo) : (s.trialsIn b).Nodup := by
  unfold State.trialsIn
  cases s.bay b with
  | none => exact List.nodup_nil
  | some bd =>
    have hplaces : (bd.lines.zipIdx.map Prod.snd).Nodup := by
      rw [List.zipIdx_map_snd]
      exact List.nodup_range'
    refine List.Nodup.of_map Prod.snd ?_
    rw [List.map_map]
    exact hplaces.sublist (List.Sublist.map _ List.filter_sublist)

theorem startsTrial_iff {s : State} {bd : Build} {l : Line} :
    startsTrial s.ctl.mode s.items s.waitLimit s.clock bd l = true
      ↔ running s.ctl.mode s.items bd l = true ∧ l.wait.runStart = none ∧ l.trialMark = false
        ∧ min (s.clock + (s.loader.active.substituteWait * 10 - l.wait.stored)) 4294967295 ≤ s.clock := by
  simp only [startsTrial, Bool.and_eq_true, decide_eq_true_eq, Bool.not_eq_true', Option.isNone_iff_eq_none]
  constructor
  · rintro ⟨⟨⟨hrun, hstart⟩, hdue⟩, hmark⟩
    exact ⟨hrun, hstart, hmark, hdue⟩
  · rintro ⟨hrun, hstart, hmark, hdue⟩
    exact ⟨⟨⟨hrun, hstart⟩, hdue⟩, hmark⟩

/-- The trials an evaluation starts are those of the lines it tries at once (R138). -/
theorem State.mem_trialsOf {s : State} {bs : List BayNo} {b : BayNo} {i : Nat} :
    (b, i) ∈ bs.flatMap s.trialsIn ↔ s.triesAtOnce bs b i := by
  simp only [List.mem_flatMap, State.mem_trialsIn, startsTrial_iff, State.triesAtOnce]
  constructor
  · rintro ⟨c, hc, rfl, h⟩
    exact ⟨hc, h⟩
  · rintro ⟨hb, h⟩
    exact ⟨b, hb, rfl, h⟩

theorem State.trialsOf_nodup (s : State) {bs : List BayNo} (h : bs.Nodup) : (bs.flatMap s.trialsIn).Nodup := by
  refine List.nodup_flatMap.mpr ⟨fun b _ => s.trialsIn_nodup b, h.imp fun {b c} hbc => ?_⟩
  rintro ⟨d, i⟩ hd hd'
  exact hbc ((State.mem_trialsIn.mp hd).1.symm.trans (State.mem_trialsIn.mp hd').1)

/-- An evaluation that finds no accumulator that may run starts no trial (R138). -/
theorem State.trialsOf_of_not_running {s : State} {bs : List BayNo}
    (h : ∀ b ∈ bs, ∀ bd, s.bay b = some bd → ∀ l ∈ bd.lines, running s.ctl.mode s.items bd l = false) :
    bs.flatMap s.trialsIn = [] := by
  refine List.eq_nil_iff_forall_not_mem.mpr fun x hx => ?_
  obtain ⟨hb, bd, l, hbd, hl, hrun, -⟩ := (State.mem_trialsOf (b := x.1) (i := x.2)).mp hx
  rw [h x.1 hb bd hbd l (List.mem_of_getElem? hl)] at hrun
  cases hrun

/-- An evaluation of bays that offer nothing stops their accumulators and does no more (R24, R48). -/
theorem State.reevaluate_of_not_offers {s : State} {bs : List BayNo} (hbs : bs.Nodup)
    (h : ∀ b ∈ bs, ∀ bd, s.bay b = some bd → s.ctl.mode.advertises = false ∨ bd.held = true) :
    s.reevaluate bs = s.setBays (Vector.ofFn fun b : Fin 8 =>
      if b ∈ bs then (s.bay b).map (Build.stoppedAt s.clock) else s.bay b) := by
  rw [State.reevaluate, State.trialsOf_of_not_running fun b hb bd hbd l _ => running_of_not_offers l (h b hb bd hbd)]
  refine (s.evalBays_eq hbs).trans (s.setBays_ofFn_congr fun b => ?_)
  by_cases hb : b ∈ bs
  · rw [if_pos hb, if_pos hb]
    cases hbd : s.bay b with
    | none => rfl
    | some bd => exact congrArg some (evalBuild_of_not_offers (h b hb bd hbd))
  · rw [if_neg hb, if_neg hb]

/-- An evaluation of EMPTY bays does nothing. -/
theorem State.reevaluate_of_empty {s : State} {bs : List BayNo} (hbs : bs.Nodup) (h : ∀ b, s.bay b = none) :
    s.reevaluate bs = s := by
  rw [State.reevaluate_of_not_offers hbs fun b _ bd hbd => absurd (hbd.symm.trans (h b)) (by simp)]
  refine (State.eq_setBays_ofFn (s.changedOnly_refl _) fun b => ?_).symm
  rw [h b]
  exact (ite_self none).symm

/-! ## The CLOSING check -/

theorem State.allEmpty_iff {s : State} : s.allEmpty = true ↔ ∀ b, s.bay b = none := by
  simp only [State.allEmpty, List.all_eq_true, Option.isNone_iff_eq_none, mem_allBays, forall_const]

/-- The CLOSING check on a finished station changes the mode, makes the change check and sets MODE_CHANGED, and there is
no accumulator left to evaluate (R165, R167). -/
theorem State.closingCheck_eq (s : State) : s.closingCheck = s.closingChecked := by
  unfold State.closingCheck State.closingChecked
  simp only [State.allEmpty_iff]
  by_cases h : s.ctl.mode = .closing ∧ (∀ b, s.bay b = none) ∧ s.lane.queue = []
  · rw [if_pos h, if_pos h]
    have hempty : ∀ b, (s.withMode .quiet).bay b = none := h.2.1
    show (((s.withMode .quiet).reevaluate allBays).changeCheck).setFlag .modeChanged = _
    rw [State.reevaluate_of_empty allBays_nodup hempty]
    rfl
  · rw [if_neg h, if_neg h]

end Sys2Proof.Machine

/-! PROOF. What the trials of an evaluation leave of each line (R138 to R143): each line that is tried at once is tried
once, whatever the order, and no other line changes; and the substitute trial itself, candidate by candidate. -/

namespace Sys2Proof.Machine

/-! ## One line of a bay -/

theorem State.linesOf_of_bays {s t : State} (h : t.bays = s.bays) : t.linesOf = s.linesOf := by
  funext b
  simp only [State.linesOf, State.bay, h]

theorem State.bays_of_changedOnly {s t : State} {bs : List Block} (h : s.changedOnly t bs) (hb : Block.bays ∉ bs) :
    t.bays = s.bays := h .bays hb

/-- A change of one line changes that place alone. -/
theorem State.linesOf_modifyLine (s : State) (b : BayNo) (i : Nat) (f : Line → Line) (c : BayNo) (j : Nat) :
    ((s.modifyLine b i f).linesOf c)[j]?
      = if c = b ∧ j = i then ((s.linesOf b)[i]?).map f else (s.linesOf c)[j]? := by
  unfold State.linesOf State.modifyLine
  rw [State.modifyBuild_bay]
  by_cases hc : c = b
  · subst hc
    rw [if_pos rfl]
    cases s.bay c with
    | none => simp
    | some bd =>
      simp only [Option.map_some, Option.getD_some, List.getElem?_modify, true_and]
      by_cases hj : j = i
      · subst hj
        simp
      · rw [if_neg hj]
        simp [Ne.symm hj]
  · rw [if_neg hc, if_neg (fun h => hc h.1)]

theorem State.linesOf_switchLine (s : State) (b : BayNo) (i p : Nat) (bd : Build) (l : Line) :
    (s.switchLine b i p bd l).linesOf = (s.modifyLine b i (Line.switched s.clock p)).linesOf :=
  State.linesOf_of_bays ((State.bays_of_changedOnly (State.changeCheck_changedOnly _) (by simp)).trans rfl)

theorem State.linesOf_noFit (s : State) (b : BayNo) (i : Nat) (bd : Build) (l : Line) :
    (s.noFit b i bd l).linesOf = (s.modifyLine b i Line.unswitched).linesOf := by
  unfold State.noFit
  dsimp only
  split
  · rfl
  · exact State.linesOf_of_bays rfl

/-- Where a trial finds a candidate that fits, it switches (R140, R142). -/
theorem State.trial_of_fit {s : State} {b : BayNo} {i p : Nat} {bd : Build} {l : Line} (hbd : s.bay b = some bd)
    (hl : bd.lines[i]? = some l) (hp : l.candidates.find? (fits s.items bd i) = some p) :
    s.trial b i = s.switchLine b i p bd l := by
  simp only [State.trial, hbd, hl, hp]

/-- Where it finds none, it does not (R143). -/
theorem State.trial_of_noFit {s : State} {b : BayNo} {i : Nat} {bd : Build} {l : Line} (hbd : s.bay b = some bd)
    (hl : bd.lines[i]? = some l) (hp : l.candidates.find? (fits s.items bd i) = none) :
    s.trial b i = s.noFit b i bd l := by
  simp only [State.trial, hbd, hl, hp]

/-- A trial leaves every other line alone (R140). -/
theorem State.trial_other {s : State} {b c : BayNo} {i j : Nat} (h : (c, j) ≠ (b, i)) :
    ((s.trial b i).linesOf c)[j]? = (s.linesOf c)[j]? := by
  have hplace : ¬ (c = b ∧ j = i) := fun e => h (Prod.ext e.1 e.2)
  unfold State.trial
  split
  · rfl
  · split
    · rfl
    · split
      · rw [State.linesOf_switchLine, State.linesOf_modifyLine, if_neg hplace]
      · rw [State.linesOf_noFit, State.linesOf_modifyLine, if_neg hplace]

/-- A trial of a line tries it (R140 to R143). -/
theorem State.trial_tries {s : State} {b : BayNo} {i : Nat} {l : Line} (h : (s.linesOf b)[i]? = some l) :
    ∃ l', ((s.trial b i).linesOf b)[i]? = some l' ∧ l.triedTo s.clock l' := by
  cases hbd : s.bay b with
  | none =>
    rw [State.linesOf_of_empty hbd] at h
    cases h
  | some bd =>
    have hl : bd.lines[i]? = some l := State.linesOf_of_bay hbd ▸ h
    cases hp : l.candidates.find? (fits s.items bd i) with
    | none =>
      refine ⟨l.unswitched, ?_, Line.unswitched_triedTo s.clock l⟩
      rw [State.trial_of_noFit hbd hl hp, State.linesOf_noFit, State.linesOf_modifyLine, if_pos ⟨rfl, rfl⟩, h]
      rfl
    | some p =>
      have hafter : l.position < p := (Line.mem_candidates.mp (List.mem_of_find?_eq_some hp)).1
      refine ⟨l.switched s.clock p, ?_, Line.switched_triedTo hafter⟩
      rw [State.trial_of_fit hbd hl hp, State.linesOf_switchLine, State.linesOf_modifyLine, if_pos ⟨rfl, rfl⟩, h]
      rfl

theorem State.trial_clock (s : State) (b : BayNo) (i : Nat) : (s.trial b i).clock = s.clock :=
  s.trial_changedOnly b i .clock (by simp)

/-! ## The trials of one step -/

theorem State.foldl_trial_other {c : BayNo} {j : Nat} : ∀ (xs : List (BayNo × Nat)) (s : State), (c, j) ∉ xs →
    ((xs.foldl (fun t x => t.trial x.1 x.2) s).linesOf c)[j]? = (s.linesOf c)[j]?
  | [], _, _ => rfl
  | x :: xs, s, h => by
    rw [List.mem_cons, not_or] at h
    rw [List.foldl_cons, State.foldl_trial_other xs _ h.2, State.trial_other h.1]

/-- Trials of different lines try each once (R138). -/
theorem State.foldl_trial_tries {b : BayNo} {i : Nat} {l : Line} : ∀ (xs : List (BayNo × Nat)) (s : State), xs.Nodup →
    (b, i) ∈ xs → (s.linesOf b)[i]? = some l →
    ∃ l', ((xs.foldl (fun t x => t.trial x.1 x.2) s).linesOf b)[i]? = some l' ∧ l.triedTo s.clock l'
  | [], _, _, h, _ => absurd h (by simp)
  | x :: xs, s, hnodup, h, hl => by
    obtain ⟨hx, hxs⟩ := List.nodup_cons.mp hnodup
    rw [List.foldl_cons]
    by_cases hhead : (b, i) = x
    · subst hhead
      rw [State.foldl_trial_other xs _ hx]
      exact State.trial_tries hl
    · have hstays := (State.trial_other (s := s) hhead).trans hl
      have hrest := State.foldl_trial_tries xs (s.trial x.1 x.2) hxs ((List.mem_cons.mp h).resolve_left hhead) hstays
      rwa [State.trial_clock] at hrest

/-- The trials that start at once are made one after another, each once, in some order; a choice between several uses up
a free value (R138, R148, log 10). -/
theorem State.trials_eq (s : State) (xs : List (BayNo × Nat)) : ∃ order : List (BayNo × Nat), order.Perm xs
    ∧ s.trials xs = order.foldl (fun t x => t.trial x.1 x.2)
      (s.setDraws (if order.length ≤ 1 then s.draws else s.draws + 1)) := by
  match xs with
  | [] => exact ⟨[], .refl _, rfl⟩
  | [x] => exact ⟨[x], .refl _, rfl⟩
  | x :: y :: rest =>
    have hperm := rankSort_perm (trialKey s.draws) (x :: y :: rest)
    have hlong : ¬ (rankSort (trialKey s.draws) (x :: y :: rest)).length ≤ 1 := by
      rw [hperm.length_eq, List.length_cons, List.length_cons]
      omega
    exact ⟨_, hperm, by rw [if_neg hlong]; rfl⟩

/-- An evaluation with the trials it starts, in one order of the lines it tries at once (R48, R138). -/
theorem State.reevaluate_eq (s : State) {bs : List BayNo} (h : bs.Nodup) :
    ∃ order : List (BayNo × Nat), order.Nodup ∧ (∀ b i, (b, i) ∈ order ↔ s.triesAtOnce bs b i)
      ∧ s.reevaluate bs = order.foldl (fun t x => t.trial x.1 x.2)
        ((s.evaluated bs).setDraws (if order.length ≤ 1 then s.draws else s.draws + 1)) := by
  obtain ⟨order, hperm, horder⟩ := (s.evaluated bs).trials_eq (bs.flatMap s.trialsIn)
  refine ⟨order, hperm.nodup_iff.mpr (s.trialsOf_nodup h), fun b i => hperm.mem_iff.trans State.mem_trialsOf, ?_⟩
  rw [State.reevaluate, s.evalBays_eq_evaluated h]
  exact horder

theorem State.evaluated_line {s : State} {bs : List BayNo} (h : bs.Nodup) {b : BayNo} {i : Nat} {l : Line}
    (hl : (s.linesOf b)[i]? = some l) : ∃ l', ((s.evaluated bs).linesOf b)[i]? = some l' ∧ l.untriedTo s.clock l' := by
  rw [← s.evalBays_eq_evaluated h]
  unfold State.linesOf at hl ⊢
  rw [State.bay_evalBays b bs s h]
  cases hbd : s.bay b with
  | none =>
    rw [hbd] at hl
    cases hl
  | some bd =>
    have hl' : bd.lines[i]? = some l := by simpa [hbd] using hl
    by_cases hb : b ∈ bs
    · refine ⟨evalLine s.ctl.mode s.items s.clock bd l, ?_, evalLine_untriedTo _ _ _ _ _⟩
      simp [hb, evalBuild, hl']
    · refine ⟨l, ?_, rfl, rfl, rfl, rfl⟩
      simp [hb, hl']

theorem Line.untriedTo.triedTo {now : Nat} {l m l' : Line} (h : l.untriedTo now m) (k : m.triedTo now l') :
    l.triedTo now l' := by
  obtain ⟨hposition, hvalue, hmark, hexhausted⟩ := h
  unfold Line.triedTo at k ⊢
  rwa [hposition, hvalue, hexhausted] at k

/-- An evaluation tries the lines that start at their expiry, and no other (R48, R138). -/
theorem State.reevaluate_triesMade (s : State) {bs : List BayNo} (h : bs.Nodup) : s.triesMade (s.reevaluate bs) bs := by
  obtain ⟨order, hnodup, hmem, heq⟩ := s.reevaluate_eq h
  intro b i l l' hl hl'
  obtain ⟨m, hm, huntried⟩ := State.evaluated_line h hl
  rw [heq] at hl'
  constructor
  · intro htried
    obtain ⟨l'', hl'', htries⟩ := State.foldl_trial_tries order
      ((s.evaluated bs).setDraws (if order.length ≤ 1 then s.draws else s.draws + 1)) hnodup ((hmem b i).mpr htried) hm
    obtain rfl := Option.some.inj (hl''.symm.trans hl')
    exact huntried.triedTo htries
  · intro hnot
    rw [State.foldl_trial_other order _ (mt (hmem b i).mp hnot)] at hl'
    obtain rfl := Option.some.inj (hm.symm.trans hl')
    exact huntried

/-- What follows an evaluation without touching the bays leaves the lines as it left them. -/
theorem State.triesMade.of_bays {s t t' : State} {bs : List BayNo} (h : s.triesMade t bs) (hb : t'.bays = t.bays) :
    s.triesMade t' bs := by
  intro b i l l' hl hl'
  rw [State.linesOf_of_bays hb] at hl'
  exact h b i l l' hl hl'

/-! ## The candidates -/

section
variable {items : List ItemRecord} {bd : Build} {i : Nat} {l : Line}

/-- The figures of a projection with another active position on one line (R17, R141). -/
theorem sum_modify_moved (term : Line → Nat) (hl : bd.lines[i]? = some l) (p : Nat) :
    ((bd.lines.modify i (Line.moved p)).map term).sum
      = (bd.lines.zipIdx.map fun lj => if lj.2 = i then term (l.moved p) else term lj.1).sum := by
  refine congrArg List.sum (List.ext_getElem? fun k => ?_)
  simp only [List.getElem?_map, List.getElem?_modify, List.getElem?_zipIdx]
  by_cases hk : k = i
  · subst hk
    simp [hl]
  · cases bd.lines[k]? <;> simp [hk, Ne.symm hk]

theorem Line.valueTerm_moved (items : List ItemRecord) (l : Line) (p : Nat) : (l.moved p).valueTerm items
    = l.placedValue + (l.ordered - l.placed) * unitValue items (l.itemAt p) := rfl

theorem Line.weightTerm_moved (items : List ItemRecord) (l : Line) (p : Nat) : (l.moved p).weightTerm items
    = l.placedWeight + (l.ordered - l.placed) * unitWeight items (l.itemAt p) := rfl

/-- The first candidate that fits, in list order (R140, R142). -/
theorem Line.firstFit_eq_some {q : Nat → Bool} {p : Nat} : l.candidates.find? q = some p ↔
    (l.position < p ∧ p ≤ l.substitutes.length) ∧ q p = true
      ∧ ∀ k, l.position < k ∧ k ≤ l.substitutes.length → k < p → q k = false := by
  simp only [Line.candidates, List.find?_filter, List.find?_range_eq_some, List.mem_range, Bool.not_eq_true',
    decide_eq_true_eq, decide_eq_false_iff_not, not_and, Bool.not_eq_true]
  constructor
  · rintro ⟨⟨hafter, hq⟩, hin, hfirst⟩
    exact ⟨⟨hafter, by omega⟩, hq, fun k hk hlt => hfirst k hlt hk.1⟩
  · rintro ⟨⟨hafter, hin⟩, hq, hfirst⟩
    exact ⟨⟨hafter, hq⟩, by omega, fun k hlt hk => hfirst k ⟨hk, by omega⟩ hlt⟩

theorem Line.firstFit_eq_none {q : Nat → Bool} : l.candidates.find? q = none ↔
    ∀ k, l.position < k ∧ k ≤ l.substitutes.length → q k = false := by
  simp only [List.find?_eq_none, Line.mem_candidates, Bool.not_eq_true]

end

/-! ## The trial -/

section
variable {s : State} {b : BayNo} {i : Nat} {bd : Build} {l : Line}

/-- A change of one line, written as the bay's new record. -/
theorem State.modifyLine_eq_setBay (hbd : s.bay b = some bd) (hl : bd.lines[i]? = some l) (f : Line → Line) :
    s.modifyLine b i f = s.setBay b (some { bd with lines := bd.lines.set i (f l) }) := by
  have hlines : bd.lines.modify i f = bd.lines.set i (f l) := by
    rw [List.modify_eq_set_getElem?, hl]
    rfl
  simp only [State.modifyLine, State.modifyBuild, hbd, hlines]

theorem Line.itemAt_of_candidate {p : Nat} (h : l.position < p ∧ p ≤ l.substitutes.length) :
    l.itemAt p = l.substitutes.getD (p - 1) 0 := by
  have hlt : p - 1 < l.substitutes.length := by omega
  rw [Line.itemAt, if_neg (by omega), List.getD_eq_getElem _ _ hlt, List.getD_eq_getElem _ _ hlt]

/-- The substitute wait expiry is taken exactly when it is due (R138). -/
theorem exec_substituteWaitExpiry {k : Fin 12} (hup : s.resetLow = false) (hk : k.val = i)
    (hl : (s.linesOf b)[i]? = some l) : exec (.substituteWaitExpiry b k) s = .next
      (if l.trialMark = false ∧ ∃ r, l.wait.runStart = some r
          ∧ min (r + (s.loader.active.substituteWait * 10 - l.wait.stored)) 4294967295 ≤ s.clock
        then s.trial b i else s) := by
  subst hk
  have hdue : s.substituteDue b k.val = true ↔ l.trialMark = false ∧ ∃ r, l.wait.runStart = some r
      ∧ min (r + (s.loader.active.substituteWait * 10 - l.wait.stored)) 4294967295 ≤ s.clock := by
    rw [State.substituteDue, hl]
    cases hr : l.wait.runStart with
    | none => simp [hr]
    | some r =>
      simp only [Option.any_some, hr, Bool.and_eq_true, Bool.not_eq_true', decide_eq_true_eq, Option.some.injEq,
        exists_eq_left']
      rfl
  refine congrArg Host.Outcome.next ((State.whileUp_of_up _ hup).trans ?_)
  simp only [hdue]

end

/-! ## The other bays -/

/-- A trial leaves every other bay alone (R140). -/
theorem State.trial_bay_of_ne {s : State} {b c : BayNo} (i : Nat) (h : c ≠ b) : (s.trial b i).bay c = s.bay c := by
  have hline (f : Line → Line) : (s.modifyLine b i f).bay c = s.bay c := by
    rw [State.modifyLine, State.modifyBuild_bay, if_neg h]
  have hcheck (t : State) : t.changeCheck.bay c = t.bay c := by
    rw [State.bay, State.bays_of_changedOnly t.changeCheck_changedOnly (by simp)]
    rfl
  unfold State.trial
  split
  · rfl
  · split
    · rfl
    · split
      · exact (hcheck _).trans (hline _)
      · unfold State.noFit
        dsimp only
        split
        · exact hline _
        · exact hline _

/-- An evaluation leaves the bays it does not name alone (R48). -/
theorem State.reevaluate_bay_of_not_mem {s : State} {bs : List BayNo} (h : bs.Nodup) {c : BayNo} (hc : c ∉ bs) :
    (s.reevaluate bs).bay c = s.bay c := by
  obtain ⟨order, -, hmem, heq⟩ := s.reevaluate_eq h
  have hothers : ∀ x ∈ order, c ≠ x.1 := by
    rintro ⟨b, i⟩ hx rfl
    exact hc ((hmem c i).mp hx).1
  have hfold : ∀ (xs : List (BayNo × Nat)) (t : State), (∀ x ∈ xs, c ≠ x.1) →
      (xs.foldl (fun t x => t.trial x.1 x.2) t).bay c = t.bay c := by
    intro xs
    induction xs with
    | nil => exact fun _ _ => rfl
    | cons x xs ih =>
      intro t hxs
      rw [List.foldl_cons, ih _ fun y hy => hxs y (List.mem_cons_of_mem _ hy),
        State.trial_bay_of_ne _ (hxs x (List.mem_cons_self ..))]
  rw [heq, hfold order _ hothers]
  show (s.evaluated bs).bay c = s.bay c
  rw [← s.evalBays_eq_evaluated h, State.bay_evalBays c bs s h, if_neg hc]

/-- Settles O38: the candidates are tried in list order, so the first that fits both comparisons is the least such
position; the expiry is due by its accumulator; and an evaluation is the trials of the lines it starts, each once. -/
theorem substituteWaitTriesCandidatesInOrder : Obligations.SubstituteWaitTriesCandidatesInOrder := by
  refine ⟨?_, fun s bs h => s.reevaluate_eq h, fun s bd l => ⟨State.advertised_iff, State.running_iff⟩⟩
  intro b i bd l s hbd hl item value weight candidate fit line
  have hsame {lj : Line × Nat} (hlj : lj ∈ bd.lines.zipIdx) (h : lj.2 = i) : lj.1 = l := by
    have hplace : bd.lines[lj.2]? = some lj.1 := List.mem_zipIdx_iff_getElem?.mp hlj
    rw [h, hl] at hplace
    exact (Option.some.inj hplace).symm
  have hvalue (p : Nat) : projectedValue s.items (bd.lines.modify i (Line.moved p)) = value p := by
    rw [projectedValue, sum_modify_moved _ hl]
    refine congrArg List.sum (List.map_congr_left fun lj hlj => ?_)
    by_cases h : lj.2 = i
    · simp only [item, if_pos h, hsame hlj h, Line.valueTerm_moved]
    · simp only [item, if_neg h, Line.valueTerm, Line.remaining]
  have hweight (p : Nat) : projectedWeight s.items (bd.lines.modify i (Line.moved p)) = weight p := by
    rw [projectedWeight, sum_modify_moved _ hl]
    refine congrArg List.sum (List.map_congr_left fun lj hlj => ?_)
    by_cases h : lj.2 = i
    · simp only [item, if_pos h, hsame hlj h, Line.weightTerm_moved]
    · simp only [item, if_neg h, Line.weightTerm, Line.remaining]
  have hfits (p : Nat) : fits s.items bd i p = true ↔ fit p := by
    rw [fits, Bool.and_eq_true, decide_eq_true_eq, decide_eq_true_eq, hvalue, hweight]
  have hlines : (s.linesOf b)[i]? = some l := by rw [State.linesOf_of_bay hbd, hl]
  refine ⟨fun p hp hfit hfirst => ?_, fun hnone => ?_, ?_⟩
  · have hfind : l.candidates.find? (fits s.items bd i) = some p :=
      Line.firstFit_eq_some.mpr ⟨hp, (hfits p).mpr hfit, fun q hq hlt =>
        Bool.eq_false_iff.mpr (mt (hfits q).mp (hfirst q hq hlt))⟩
    rw [State.trial_of_fit hbd hl hfind, State.switchLine, State.modifyLine_eq_setBay hbd hl,
      Line.itemAt_of_candidate hp]
    rfl
  · have hfind : l.candidates.find? (fits s.items bd i) = none :=
      Line.firstFit_eq_none.mpr fun q hq => Bool.eq_false_iff.mpr (mt (hfits q).mp (hnone q hq))
    rw [State.trial_of_noFit hbd hl hfind, State.noFit, State.modifyLine_eq_setBay hbd hl]
    rfl
  · intro k r hk hup limit
    rw [exec_substituteWaitExpiry hup hk hlines]
    constructor
    · intro hnot
      rw [if_neg]
      rintro ⟨hmark, q, hq, hdue⟩
      rcases hnot with hstopped | hmarked | ⟨hr, hearly⟩
      · cases hstopped.symm.trans hq
      · cases hmarked.symm.trans hmark
      · obtain rfl := Option.some.inj (hr.symm.trans hq)
        exact absurd hearly (not_lt.mpr hdue)
    · intro hr hmark hdue
      rw [if_pos]
      refine ⟨hmark, r, hr, ?_⟩
      rcases hdue with ⟨hvalue, hpast⟩ | hdue
      · refine (min_le_left _ _).trans ?_
        show r + (limit - l.wait.stored) ≤ s.clock
        omega
      · exact hdue

end Sys2Proof.Machine

/-! PROOF. The expiries of the bays (R31, R32, R37) and an address clash (R70, R168): the states in which no accumulator
may run, so that the evaluation that follows stops them and tries nothing. -/

namespace Sys2Proof.Machine

/-! ## HELD bays -/

/-- The accumulators of a bay that has just become HELD are stopped, and no trial starts (R24, R48). -/
theorem State.reevaluate_setBay_held (s : State) (b : BayNo) {bd : Build} (h : bd.held = true) :
    (s.setBay b (some bd)).reevaluate [b] = s.setBay b (some (bd.stoppedAt s.clock)) := by
  rw [State.reevaluate_of_not_offers (List.nodup_singleton b), State.setBay_eq_ofFn s b (some (bd.stoppedAt s.clock))]
  · refine State.setBays_ofFn_congr s fun c => ?_
    rw [State.bay_setBay]
    by_cases hc : c = b
    · subst hc
      simp
    · simp [hc]
  · intro c hc bd' hbd'
    rw [List.mem_singleton.mp hc, State.bay_setBay_self] at hbd'
    exact .inr (Option.some.inj hbd' ▸ h)

/-- The chill window expiry of a bay is due (R31, R32). -/
theorem State.chillDue_iff {s : State} {bd : Build} : s.chillDue bd = true ↔
    bd.lapse = false ∧ (∃ e, bd.chillExpiry = some e ∧ e ≤ s.clock) ∧ (bd.held = true ∨ bd.work ≠ .gathering) := by
  simp [State.chillDue, and_assoc, Option.any_eq_true]

theorem Build.lapsed_of_held {bd : Build} (h : bd.held = true) : bd.lapsed = { bd with lapse := true } := by
  rw [Build.lapsed, ← h]

section
variable {s : State} {b : BayNo} {bd : Build}

theorem exec_chillWindowExpiry_early (hup : s.resetLow = false) (hbd : s.bay b = some bd)
    (h : s.chillDue bd = false) : exec (.chillWindowExpiry b) s = .next s := by
  refine congrArg Host.Outcome.next ((State.whileUp_of_up _ hup).trans ?_)
  simp only [State.takeChill, hbd, h, if_true]

theorem exec_chillWindowExpiry_due (hup : s.resetLow = false) (hbd : s.bay b = some bd) (h : s.chillDue bd = true) :
    exec (.chillWindowExpiry b) s = .next
      (if bd.held = true then (s.record (.chillLapse b bd.orderRef)).setBay b (some bd.lapsed)
      else ((s.record (.chillLapse b bd.orderRef)).setBay b (some (bd.lapsed.stoppedAt s.clock))).changeCheck) := by
  refine congrArg Host.Outcome.next ((State.whileUp_of_up _ hup).trans ?_)
  simp only [State.takeChill, hbd, h, Bool.true_eq_false, if_false]
  rw [State.reevaluate_setBay_held _ b (bd := bd.lapsed) rfl]
  rfl

theorem exec_deadlineExpiry (hup : s.resetLow = false) (hbd : s.bay b = some bd) : exec (.deadlineExpiry b) s = .next
    (if bd.deadlinePending = true ∧ bd.deadline ≤ s.clock then s.takeDeadline b else s) := by
  refine congrArg Host.Outcome.next ((State.whileUp_of_up _ hup).trans ?_)
  simp only [State.deadlineDue, hbd, Option.any_some, Bool.and_eq_true, decide_eq_true_eq]

theorem State.takeDeadline_eq (hbd : s.bay b = some bd) : s.takeDeadline b =
    if bd.work = .ready ∧ bd.held = false then s.setBay b (some { bd with deadlinePending := false })
    else (s.setBay b (some { bd with deadlinePending := false, deadlineReported := true })).record
      (.deadlineMissed b bd.orderRef) := by
  simp only [State.takeDeadline, hbd]

end

/-- Settles O37: each expiry is due once its clock value is reached and not again, and a bay that becomes HELD has its
accumulators stopped. -/
theorem chillWindowAndDeadlineExpireOnce : Obligations.ChillWindowAndDeadlineExpireOnce := by
  intro b bd s hup hbd lapse stopped
  refine ⟨fun hearly => ?_, fun e hlapse he hdue => ⟨fun hheld => ?_, fun hheld hwork => ?_⟩, fun hearly => ?_,
    fun hpending hdue => ?_⟩
  · refine exec_chillWindowExpiry_early hup hbd (Bool.eq_false_iff.mpr fun hdue => ?_)
    obtain ⟨hlapse, ⟨e, he, hpast⟩, -⟩ := State.chillDue_iff.mp hdue
    rcases hearly with hlapsed | hnone | ⟨e', he', hlater⟩
    · cases hlapsed.symm.trans hlapse
    · cases hnone.symm.trans he
    · obtain rfl := Option.some.inj (he.symm.trans he')
      exact absurd hlater (not_lt.mpr hpast)
  · rw [exec_chillWindowExpiry_due hup hbd (State.chillDue_iff.mpr ⟨hlapse, ⟨e, he, hdue⟩, .inl hheld⟩), if_pos hheld,
      Build.lapsed_of_held hheld]
  · rw [exec_chillWindowExpiry_due hup hbd (State.chillDue_iff.mpr ⟨hlapse, ⟨e, he, hdue⟩, .inr hwork⟩),
      if_neg (by simp [hheld])]
    rfl
  · rw [exec_deadlineExpiry hup hbd, if_neg]
    rintro ⟨hpending, hpast⟩
    rcases hearly with hconsumed | hlater
    · cases hconsumed.symm.trans hpending
    · exact absurd hlater (not_lt.mpr hpast)
  · rw [exec_deadlineExpiry hup hbd, if_pos ⟨hpending, hdue⟩, State.takeDeadline_eq hbd]

/-! ## Address clash -/

theorem State.changeCheck_of_muted {s : State} (h : s.ctl.mode = .muted) : s.changeCheck = s :=
  if_neg fun hmode => hmode.2.1 h

/-- Entry to MUTED discards the settle expiry, stops every accumulator and sets MODE_CHANGED (R165, R168). -/
theorem State.mute_of_not_muted {s : State} (h : s.ctl.mode ≠ .muted) : s.mute =
    ((s.setCtl { s.ctl with mode := .muted, settleExpiry := none }).setBays
      (Vector.ofFn fun b : Fin 8 => (s.bay b).map (Build.stoppedAt s.clock))).setFlag .modeChanged := by
  have hstopped : (s.setCtl { s.ctl with mode := .muted, settleExpiry := none }).reevaluate allBays =
      (s.setCtl { s.ctl with mode := .muted, settleExpiry := none }).setBays
        (Vector.ofFn fun b : Fin 8 => (s.bay b).map (Build.stoppedAt s.clock)) := by
    rw [State.reevaluate_of_not_offers allBays_nodup fun _ _ _ _ => .inl rfl]
    exact State.setBays_ofFn_congr _ fun b => if_pos (mem_allBays b)
  rw [State.mute, if_neg h]
  show (((s.setCtl { s.ctl with mode := .muted, settleExpiry := none }).reevaluate allBays).changeCheck).setFlag
    .modeChanged = _
  rw [hstopped, State.changeCheck_of_muted rfl]

theorem State.mute_of_muted {s : State} (h : s.ctl.mode = .muted) : s.mute = s := if_pos h

/-- The queue after a clash: empty, what it held counted dropped, and nothing being sent (R70). -/
theorem State.emptyQueue_li (s : State) : s.emptyQueue.li =
    { s.li with
      queue := [], phase := .waiting, lde := false, ltxd := .standingHigh
      counters := { s.li.counters with
        dropped := if s.li.queue = [] then s.li.counters.dropped
          else min (s.li.counters.dropped + s.li.queue.length) 65535 } } := by
  unfold State.emptyQueue
  by_cases h : s.li.queue = []
  · rw [if_pos h, if_pos h, ← h]
    rfl
  · rw [if_neg h, if_neg h]
    rfl

theorem State.emptyQueue_port (s : State) :
    s.emptyQueue.port = if s.li.queue = [] then s.port else s.port.setFlag .noticeLost := by
  unfold State.emptyQueue
  split
  · rfl
  · rfl

/-- A good notice that bears the own number mutes the station (R70). -/
theorem exec_clash {sender sequence : Byte} {c : Instr} {s : State} (hup : s.resetLow = false)
    (hm : s.ctl.mode ≠ .loading) (hl : s.li.lde = false) (hi : s.li.idleSeen = true) (h1 : 1 ≤ sender.toNat)
    (h32 : sender.toNat ≤ 32) (hown : sender.toNat = s.ctl.station) (hform : c.wellFormed = true)
    (hc : (∃ capacity bays revision, c = .joinNotice sender sequence capacity bays revision)
      ∨ (∃ entries, c = .demandNotice sender sequence entries)
      ∨ (∃ tote serial item units remaining, c = .drawNotice sender sequence tote serial item units remaining)
      ∨ ∃ tote serial item remaining, c = .tallyNotice sender sequence tote serial item remaining) :
    exec c s = .next (s.countLine LineCounters.incGood).clash := by
  have hnotice (payload : Payload) (hwell : payload.wellFormed = true) :
      s.whileUp (fun t => t.receive (noticeClass sender sequence payload)) = (s.countLine LineCounters.incGood).clash :=
    (exec_notice hup hm hl hi h1 h32 hwell).trans (if_pos hown)
  obtain ⟨capacity, bays, revision, rfl⟩ | ⟨entries, rfl⟩ | ⟨tote, serial, item, units, remaining, rfl⟩
    | ⟨tote, serial, item, remaining, rfl⟩ := hc
  · exact congrArg Host.Outcome.next (hnotice _ rfl)
  · rw [Instr.wellFormed, Bool.and_eq_true] at hform
    exact congrArg Host.Outcome.next (hnotice (.demand entries) hform.2)
  · exact congrArg Host.Outcome.next (hnotice _ rfl)
  · exact congrArg Host.Outcome.next (hnotice _ rfl)

theorem State.mute_ctl (s : State) : s.mute.ctl =
    { s.ctl with mode := .muted, settleExpiry := if s.ctl.mode = .muted then s.ctl.settleExpiry else none } := by
  by_cases h : s.ctl.mode = .muted
  · rw [State.mute_of_muted h, if_pos h, ← h]
  · rw [State.mute_of_not_muted h, if_neg h]
    rfl

theorem State.mute_li (s : State) : s.mute.li = s.li := by
  by_cases h : s.ctl.mode = .muted
  · rw [State.mute_of_muted h]
  · rw [State.mute_of_not_muted h]
    rfl

theorem State.mute_port (s : State) :
    s.mute.port = if s.ctl.mode = .muted then s.port else s.port.setFlag .modeChanged := by
  by_cases h : s.ctl.mode = .muted
  · rw [State.mute_of_muted h, if_pos h]
  · rw [State.mute_of_not_muted h, if_neg h]
    rfl

theorem State.mute_bay (s : State) (b : BayNo) :
    s.mute.bay b = if s.ctl.mode = .muted then s.bay b else (s.bay b).map (Build.stoppedAt s.clock) := by
  by_cases h : s.ctl.mode = .muted
  · rw [State.mute_of_muted h, if_pos h]
  · rw [State.mute_of_not_muted h, if_neg h]
    exact State.bay_setBays_ofFn (s.setCtl { s.ctl with mode := .muted, settleExpiry := none }) _ b

theorem State.mute_changesModeAndBays (s : State) : s.changedOnly s.mute [.ctl, .bays, .port] := by
  by_cases h : s.ctl.mode = .muted
  · rw [State.mute_of_muted h]
    exact s.changedOnly_refl _
  · rw [State.mute_of_not_muted h]
    exact State.changedOnly_trans
      (State.changedOnly_trans (State.changedOnly_mono (s.setCtl_changedOnly _) (by simp))
        (State.changedOnly_mono (State.setBays_changedOnly _ _) (by simp)))
      (State.changedOnly_mono (State.setFlag_changedOnly _ _) (by simp))

/-- The port after a clash (R70, R168). -/
theorem State.clash_port (s : State) : s.port.raisedTo s.clash.port
    ([.stationClash] ++ (if s.li.queue = [] then [] else [.noticeLost])
      ++ (if s.ctl.mode = .muted then [] else [.modeChanged])) := by
  have hmute : s.port.raisedTo s.mute.port (if s.ctl.mode = .muted then [] else [.modeChanged]) := by
    rw [State.mute_port]
    split
    · exact BenchPort.raisedTo_refl _ _
    · exact BenchPort.setFlag_raisedTo _ _
  have hempty : s.mute.port.raisedTo s.mute.emptyQueue.port (if s.li.queue = [] then [] else [.noticeLost]) := by
    rw [State.emptyQueue_port, State.mute_li]
    split
    · exact BenchPort.raisedTo_refl _ _
    · exact BenchPort.setFlag_raisedTo _ _
  refine BenchPort.raisedTo_trans (BenchPort.raisedTo_mono hmute fun f hf => ?_)
    (BenchPort.raisedTo_trans (BenchPort.raisedTo_mono hempty fun f hf => ?_)
      (BenchPort.raisedTo_mono (BenchPort.setFlag_raisedTo _ .stationClash) fun f hf => ?_))
  · exact List.mem_append_right _ hf
  · exact List.mem_append_left _ (List.mem_append_right _ hf)
  · exact List.mem_append_left _ (List.mem_append_left _ hf)

theorem State.clash_port_eq (s : State) : s.clash.port =
    (if s.li.queue = [] then s.mute.port else s.mute.port.setFlag .noticeLost).setFlag .stationClash := by
  show s.mute.emptyQueue.port.setFlag .stationClash = _
  rw [State.emptyQueue_port, State.mute_li]

theorem State.clash_stationClash (s : State) : EventFlag.stationClash.isSet s.clash.port = true := by
  simp [State.clash_port_eq, BenchPort.isSet_setFlag]

theorem State.clash_noticeLost {s : State} (h : s.li.queue ≠ []) : EventFlag.noticeLost.isSet s.clash.port = true := by
  simp [State.clash_port_eq, BenchPort.isSet_setFlag, h]

theorem State.clash_modeChanged {s : State} (h : s.ctl.mode ≠ .muted) :
    EventFlag.modeChanged.isSet s.clash.port = true := by
  rw [State.clash_port_eq, State.mute_port, if_neg h, BenchPort.isSet_setFlag]
  split <;> simp [BenchPort.isSet_setFlag]

/-- Settles O46: the notice is counted, the station muted where it was not, the queue emptied, and the flags set. -/
theorem addressClashMutesTheStation : Obligations.AddressClashMutesTheStation := by
  intro sender sequence c s hup hm hl hi h1 h32 hown hform hc
  have hport := (s.countLine LineCounters.incGood).clash_port
  refine ⟨(s.countLine LineCounters.incGood).clash, exec_clash hup hm hl hi h1 h32 hown hform hc, ?_, ?_, ?_, fun hq => ?_,
    fun hmode => ?_, hport.keepsReply, hport.onlyRaises, fun b => ?_, ?_⟩
  · exact ((State.emptyQueue_changedOnly _) .ctl (by simp)).trans (State.mute_ctl _)
  · refine (State.emptyQueue_li _).trans ?_
    rw [State.mute_li]
    rfl
  · exact State.clash_stationClash _
  · exact State.clash_noticeLost (s := s.countLine LineCounters.incGood) hq
  · exact State.clash_modeChanged (s := s.countLine LineCounters.incGood) hmode
  · have hbays : (s.countLine LineCounters.incGood).clash.bays = (s.countLine LineCounters.incGood).mute.bays :=
      State.emptyQueue_changedOnly _ .bays (by simp)
    exact (congrArg (fun v : Vector (Option Build) 8 => v[b]) hbays).trans (State.mute_bay _ b)
  · exact State.changedOnly_trans
      (State.changedOnly_trans
        (State.changedOnly_trans (State.changedOnly_mono (s.countLine_changedOnly _) (by simp))
          (State.changedOnly_mono (State.mute_changesModeAndBays _) (by simp)))
        (State.changedOnly_mono (State.emptyQueue_changedOnly _) (by simp)))
      (State.changedOnly_mono (State.setFlag_changedOnly _ _) (by simp))

end Sys2Proof.Machine

/-! PROOF. What follows a departure, a Set Mode or the settle expiry (R124, R165 to R167): the evaluation of the
accumulators with its trials, one change check and the CLOSING check, in one statement; and what an answered request
leaves of it. -/

namespace Sys2Proof.Machine

/-! ## The CLOSING check -/

/-- A CLOSING station with every bay EMPTY and nothing in the lane (R167). -/
def State.isFinished (s : State) : Prop := s.ctl.mode = .closing ∧ (∀ b, s.bay b = none) ∧ s.lane.queue = []

theorem State.closingChecked_of_finished {s : State} (h : s.isFinished) :
    s.closingChecked = ((s.setCtl { s.ctl with mode := .quiet }).changeCheck).setFlag .modeChanged := if_pos h

theorem State.closingChecked_of_unfinished {s : State} (h : ¬ s.isFinished) : s.closingChecked = s := if_neg h

theorem State.closingChecked_changedOnly (s : State) : s.changedOnly s.closingChecked [.ctl, .li, .port] := by
  by_cases h : s.isFinished
  · rw [State.closingChecked_of_finished h]
    exact State.changedOnly_trans
      (State.changedOnly_trans (State.changedOnly_mono (s.setCtl_changedOnly _) (by simp))
        (State.changedOnly_mono (State.changeCheck_changedOnly _) (by simp)))
      (State.changedOnly_mono (State.setFlag_changedOnly _ _) (by simp))
  · rw [State.closingChecked_of_unfinished h]
    exact s.changedOnly_refl _

theorem State.closingChecked_bays (s : State) : s.closingChecked.bays = s.bays :=
  s.closingChecked_changedOnly .bays (by simp)

theorem State.modeAfter_of_finished {s : State} (h : s.isFinished) : s.modeAfter s.lane.queue = .quiet := if_pos h

theorem State.modeAfter_of_unfinished {s : State} (h : ¬ s.isFinished) : s.modeAfter s.lane.queue = s.ctl.mode :=
  if_neg h

theorem State.closingChecked_ctl (s : State) :
    s.closingChecked.ctl = { s.ctl with mode := s.modeAfter s.lane.queue } := by
  by_cases h : s.isFinished
  · rw [State.closingChecked_of_finished h, State.modeAfter_of_finished h]
    exact State.changeCheck_changedOnly (s.setCtl { s.ctl with mode := .quiet }) .ctl (by simp)
  · rw [State.closingChecked_of_unfinished h, State.modeAfter_of_unfinished h]

theorem State.closingChecked_marked (s : State) : s.li.marked s.closingChecked.li := by
  by_cases h : s.isFinished
  · rw [State.closingChecked_of_finished h]
    exact State.changeCheck_marked (s.setCtl { s.ctl with mode := .quiet })
  · rw [State.closingChecked_of_unfinished h]
    exact .inl rfl

theorem State.closingChecked_port_of_finished {s : State} (h : s.isFinished) :
    s.closingChecked.port = s.port.setFlag .modeChanged := by
  have hport := State.changeCheck_changedOnly (s.setCtl { s.ctl with mode := .quiet }) .port (by simp)
  rw [State.closingChecked_of_finished h]
  exact congrArg (BenchPort.setFlag · .modeChanged) hport

theorem State.closingChecked_raises (s : State) : s.port.raisedTo s.closingChecked.port [.modeChanged] := by
  by_cases h : s.isFinished
  · rw [State.closingChecked_port_of_finished h]
    exact BenchPort.setFlag_raisedTo _ _
  · rw [State.closingChecked_of_unfinished h]
    exact BenchPort.raisedTo_refl _ _

theorem State.closingChecked_modeChanged (s : State) : EventFlag.modeChanged.isSet s.closingChecked.port = true
    ↔ EventFlag.modeChanged.isSet s.port = true ∨ s.isFinished := by
  by_cases h : s.isFinished
  · rw [State.closingChecked_port_of_finished h]
    simp [BenchPort.isSet_setFlag, h]
  · rw [State.closingChecked_of_unfinished h]
    simp [h]

theorem State.closingChecked_waitsFollow {s : State} {b : BayNo} (h : s.waitsFollow b) :
    s.closingChecked.waitsFollow b := by
  by_cases hf : s.isFinished
  · intro bd hbd
    rw [State.bay, State.closingChecked_bays] at hbd
    cases hbd.symm.trans (hf.2.1 b)
  · rwa [State.closingChecked_of_unfinished hf]

/-! ## Evaluation, change check, CLOSING check -/

theorem State.sameStock.none_iff {s t : State} (h : s.sameStock t) (b : BayNo) : t.bay b = none ↔ s.bay b = none := by
  rw [← Option.map_eq_none_iff (f := Build.stock), h b, Option.map_eq_none_iff]

/-- `t` is what an evaluation of these bays, a change check and the CLOSING check leave of `s`. -/
structure State.endsIn (s t : State) (bs : List BayNo) : Prop where
  tries : s.triesMade t bs
  stock : s.sameStock t
  follow : ∀ b, b ∈ bs ∨ s.waitsFollow b → t.waitsFollow b
  marked : s.li.marked t.li
  dev : s.dev.withTrials s.clock t.dev
  port : s.port.raisedTo t.port [.deviation, .modeChanged]
  modeChanged : EventFlag.modeChanged.isSet t.port = true ↔ EventFlag.modeChanged.isSet s.port = true ∨ s.isFinished
  ctl : t.ctl = { s.ctl with mode := s.modeAfter s.lane.queue }
  frame : s.changedOnly t [.ctl, .bays, .li, .dev, .port, .draws]

theorem State.modeAfter_of_stock {s t : State} (hctl : t.ctl = s.ctl) (hstock : s.sameStock t) (q : List LaneEntry) :
    t.modeAfter q = s.modeAfter q := by
  simp only [State.modeAfter, hctl, hstock.none_iff]

theorem State.isFinished_of_stock {s t : State} (hctl : t.ctl = s.ctl) (hstock : s.sameStock t) (hlane : t.lane = s.lane) :
    t.isFinished ↔ s.isFinished := by
  simp only [State.isFinished, hctl, hstock.none_iff, hlane]

/-- The whole aftermath (R48, R91, R138, R165, R167). -/
theorem State.ended (s : State) {bs : List BayNo} (h : bs.Nodup) :
    s.endsIn ((s.reevaluate bs).changeCheck).closingChecked bs := by
  obtain ⟨⟨rstock, -, rdev, -, rframe⟩, rmarked, rfollow⟩ := s.reevaluate_spec bs
  obtain ⟨cstock, cfollow, cmarked, -, -, cframe⟩ := (s.reevaluate bs).tried_changeCheck
  have hframe : s.changedOnly (s.reevaluate bs).changeCheck [.bays, .li, .dev, .port, .draws] :=
    State.changedOnly_trans rframe cframe
  have hstock : s.sameStock (s.reevaluate bs).changeCheck := State.sameStock_trans rstock cstock
  have hctl : ((s.reevaluate bs).changeCheck).ctl = s.ctl := hframe .ctl (by simp)
  have hlane : ((s.reevaluate bs).changeCheck).lane = s.lane := hframe .lane (by simp)
  have hbays : ((s.reevaluate bs).changeCheck).bays = (s.reevaluate bs).bays :=
    State.changeCheck_changedOnly _ .bays (by simp)
  have hport : s.port.raisedTo ((s.reevaluate bs).changeCheck).port [.deviation] :=
    ((s.reevaluate_loggedTo bs).trans (State.changeCheck_loggedTo _ _)).port
  have hdev : ((s.reevaluate bs).changeCheck).dev = (s.reevaluate bs).dev :=
    State.changeCheck_changedOnly _ .dev (by simp)
  have hlast := ((s.reevaluate bs).changeCheck).closingChecked_changedOnly
  have hlastBays := ((s.reevaluate bs).changeCheck).closingChecked_bays
  refine ⟨(s.reevaluate_triesMade h).of_bays (hlastBays.trans hbays), fun b => ?_, fun b hb => ?_, ?_, ?_, ?_, ?_, ?_, ?_⟩
  · rw [State.bay, hlastBays]
    exact hstock b
  · exact State.closingChecked_waitsFollow (cfollow b (rfollow b hb))
  · exact LineInterface.marked_trans rmarked (LineInterface.marked_trans cmarked (State.closingChecked_marked _))
  · rw [show ((s.reevaluate bs).changeCheck).closingChecked.dev = _ from hlast .dev (by simp), hdev]
    exact rdev
  · exact BenchPort.raisedTo_trans (BenchPort.raisedTo_mono hport (by simp))
      (BenchPort.raisedTo_mono (State.closingChecked_raises _) (by simp))
  · rw [State.closingChecked_modeChanged, hport.isSet_eq (by simp), State.isFinished_of_stock hctl hstock hlane]
  · rw [State.closingChecked_ctl, hctl, hlane, State.modeAfter_of_stock hctl hstock]
  · exact State.changedOnly_trans (State.changedOnly_mono hframe (by simp)) (State.changedOnly_mono hlast (by simp))

/-! ## The answer to a request -/

theorem State.replied_changedOnly (s : State) (n : Nat) (r : Reply) : s.changedOnly (s.replied n r) [.port] :=
  s.setPort_changedOnly _

theorem BenchPort.onlyRaises.replied {p : BenchPort} {s : State} {fs : List EventFlag} (h : p.onlyRaises s.port fs)
    (n : Nat) (r : Reply) : p.onlyRaises (s.replied n r).port fs := h

theorem State.replied_holds (s : State) (n : Nat) (r : Reply) : (s.replied n r).port.holds n r := ⟨rfl, rfl, rfl, rfl⟩

theorem State.waitsFollow.replied {s : State} {b : BayNo} (h : s.waitsFollow b) (n : Nat) (r : Reply) :
    (s.replied n r).waitsFollow b := fun bd hbd => h bd hbd

theorem State.triesMade.replied {s t : State} {bs : List BayNo} (h : s.triesMade t bs) (n : Nat) (r : Reply) :
    s.triesMade (t.replied n r) bs := h.of_bays rfl

/-! ## The settle expiry -/

theorem exec_settleExpiry {s : State} {e : Nat} (hup : s.resetLow = false) (hmode : s.ctl.mode = .settling)
    (he : s.ctl.settleExpiry = some e) : exec .settleExpiry s = .next
      (if e ≤ s.clock then (s.setCtl { s.ctl with settleExpiry := none }).changeMode .active false else s) := by
  refine congrArg Host.Outcome.next ((State.whileUp_of_up _ hup).trans ?_)
  simp only [State.takeSettle, State.settleDue, hmode, he, beq_self_eq_true, Bool.true_and, Option.any_some,
    decide_eq_true_eq]

/-- Settles O8: the change of mode that the expiry makes, with the evaluation of every bay. -/
theorem settleExpiryMakesTheStationActive : Obligations.SettleExpiryMakesTheStationActive := by
  intro s hup hmode e he
  rw [exec_settleExpiry hup hmode he]
  refine ⟨fun hearly => by rw [if_neg (not_le.mpr hearly)], fun hdue => ?_⟩
  intro u
  rw [if_pos hdue]
  obtain ⟨hctl, hstock, hmarked, hdev, hfollow, hport⟩ :=
    (s.setCtl { s.ctl with settleExpiry := none }).changeMode_spec .active false
  have hchanged : EventFlag.modeChanged.isSet
      (((u.reevaluate allBays).changeCheck).setFlag .modeChanged).port = true := by
    show EventFlag.modeChanged.isSet (BenchPort.setFlag _ _) = true
    simp [BenchPort.isSet_setFlag]
  have hbays : (((u.reevaluate allBays).changeCheck).setFlag .modeChanged).bays = (u.reevaluate allBays).bays :=
    State.changeCheck_changedOnly _ .bays (by simp)
  refine ⟨_, rfl, rfl, hctl, ?_, ?_, hchanged, hfollow, hstock, LineInterface.marked_withMarker hmarked, hdev, hport, ?_⟩
  · exact (u.reevaluate_triesMade allBays_nodup).of_bays hbays
  · exact (State.changeMode_loggedTo (s.setCtl { s.ctl with settleExpiry := none }) .active false).port.keepsReply
  · exact State.changedOnly_trans (State.changedOnly_mono (s.setCtl_changedOnly _) (by simp))
      (State.changeMode_changedOnly _ _ _)

/-! ## Set Mode -/

section
variable {tx : List Byte} {value : Byte} {s : State} (hs : s.listens) (hm : s.ctl.mode ≠ .loading)
  (hb : carries tx [value])
include hs hm hb

/-- A Set Mode that reaches its owner, its answer beside it (R166). -/
theorem exec_setMode : exec (.setMode tx) s = .next
    (match modeOf value.toNat with
    | none => s.replied tx.length (bareReply .badArg)
    | some m => if s.ctl.mode.settable = false then s.replied tx.length (bareReply .mode)
      else (s.acceptMode m).replied tx.length (okReply [s.ctl.mode.code, (s.acceptMode m).ctl.mode.code])) := by
  refine congrArg Host.Outcome.next ((State.request_taken (n := 1) hs hb rfl hm).trans ?_)
  rw [setModeOwner, fieldAt_single]
  cases modeOf value.toNat with
  | none => exact State.begin_finish _ _ hs.2
  | some m =>
    dsimp only
    rw [State.beginRequest_ctl]
    split
    · exact State.begin_finish _ _ hs.2
    · have hmode : ((s.beginRequest tx.length).acceptMode m).ctl = (s.acceptMode m).ctl := by
        rw [State.beginRequest_eq_withReply hs.2, State.acceptMode_withReply, State.withReply_ctl]
      rw [hmode]
      exact State.answered (f := fun t => t.acceptMode m) (fun t q => t.acceptMode_withReply q m) hs.2 _ _

end

theorem modeOf_eq_none {value : Byte} (h : value ∉ [2#8, 3#8, 4#8]) : modeOf value.toNat = none := by
  revert value
  decide

theorem modeOf_code {m : Mode} (h : m ∈ [Mode.active, Mode.closing, Mode.quiet]) : modeOf m.code.toNat = some m := by
  revert h
  cases m <;> decide

theorem Mode.settable_iff_mem {m : Mode} : m.settable = true ↔ m ∈ [Mode.active, Mode.closing, Mode.quiet] := by
  cases m <;> decide

/-- An accepted Set Mode to another mode (R165 to R167): the CLOSING check is one that can only change a CLOSING
station. -/
theorem State.acceptMode_eq {s : State} {m : Mode} (h : s.ctl.mode ≠ m) :
    s.acceptMode m = (((s.setCtl { s.ctl with mode := m }).reevaluate allBays).changeCheck).closingChecked := by
  rw [State.acceptMode, if_neg (Ne.symm h)]
  by_cases hm : m = .closing
  · subst hm
    rw [if_pos rfl, State.closingCheck_eq]
    rfl
  · have hctl := ((s.changeMode_spec m true).1)
    have hunfinished : ¬ (s.changeMode m true).isFinished := fun hf => hm (by simpa [hctl] using hf.1)
    rw [if_neg hm]
    exact (State.closingChecked_of_unfinished hunfinished).symm

/-- Settles O29: the two checks in order, and the change of mode with what follows it. -/
theorem setModeMovesAmongItsThreeModes : Obligations.SetModeMovesAmongItsThreeModes := by
  intro tx value s hs hm hb
  refine ⟨fun hvalue => ?_, fun m hmem hcode => ⟨fun hclosed => ?_, fun hsame => ?_, fun hopen hne => ?_⟩⟩
  · rw [exec_setMode hs hm hb, modeOf_eq_none hvalue]
  · have hnot : s.ctl.mode.settable = false := Bool.eq_false_iff.mpr (mt Mode.settable_iff_mem.mp hclosed)
    rw [exec_setMode hs hm hb, ← hcode, modeOf_code hmem]
    exact congrArg Host.Outcome.next (if_pos hnot)
  · have hopen : ¬ s.ctl.mode.settable = false := by
      rw [Bool.not_eq_false, Mode.settable_iff_mem, hsame]
      exact hmem
    have hstay : s.acceptMode m = s := if_pos hsame.symm
    rw [exec_setMode hs hm hb, ← hcode, modeOf_code hmem]
    refine congrArg Host.Outcome.next ((if_neg hopen).trans ?_)
    rw [hstay, hsame]
  · intro finished after u reply
    have hopen' : ¬ s.ctl.mode.settable = false := by
      rw [Bool.not_eq_false, Mode.settable_iff_mem]
      exact hopen
    have hends := u.ended allBays_nodup
    have hfinished : u.isFinished ↔ finished := Iff.rfl
    have hafter : u.modeAfter u.lane.queue = after := if_congr hfinished rfl rfl
    have hctl : ((u.reevaluate allBays).changeCheck).closingChecked.ctl = { s.ctl with mode := after } :=
      hends.ctl.trans (congrArg (fun x => { s.ctl with mode := x }) hafter)
    have haccepted : s.acceptMode m = ((u.reevaluate allBays).changeCheck).closingChecked := State.acceptMode_eq hne
    generalize ((u.reevaluate allBays).changeCheck).closingChecked = v at hends hctl haccepted ⊢
    refine ⟨v.replied tx.length reply, ?_, rfl, hends.tries.replied _ _, hctl,
      fun b => ?_, hends.stock, LineInterface.marked_withMarker hends.marked, hends.dev, State.replied_holds _ _ _,
      hends.port.onlyRaises, hends.modeChanged, ?_⟩
    · rw [exec_setMode hs hm hb, ← hcode, modeOf_code hmem]
      refine congrArg Host.Outcome.next ((if_neg hopen').trans ?_)
      rw [haccepted, hctl]
    · exact (hends.follow b (.inl (mem_allBays b))).replied _ _
    · exact State.changedOnly_trans
        (State.changedOnly_trans (State.changedOnly_mono (s.setCtl_changedOnly _) (by simp)) hends.frame)
        (State.changedOnly_mono (State.replied_changedOnly _ _ _) (by simp))

end Sys2Proof.Machine

/-! PROOF. The requests that return a bay to EMPTY, hold, release and open it (R15, R16, R19 to R21, R34, R35): each as
the new record of the bays it names, bay by bay. -/

namespace Sys2Proof.Machine

/-! ## One bay after another -/

/-- A step of one bay: it replaces that bay's build, may set BAY_READY, and leaves the rest of the part. -/
structure State.bayStepOf (s : State) (f : State → BayNo → State) (g : BayNo → Build → Build)
    (enters : BayNo → Build → Prop) : Prop where
  frame : ∀ (t : State) (b : BayNo), t.changedOnly (f t b) [.bays, .port]
  bay : ∀ (t : State) (b c : BayNo), s.changedOnly t [.bays, .port] → (f t b).bay c = if c = b then (t.bay b).map (g b) else t.bay c
  raises : ∀ (t : State) (b : BayNo) (bd : Build), s.changedOnly t [.bays, .port] → t.bay b = some bd → enters b bd →
    (f t b).port = t.port.setFlag .bayReady
  keeps : ∀ (t : State) (b : BayNo), s.changedOnly t [.bays, .port] → (∀ bd, t.bay b = some bd → ¬ enters b bd) → (f t b).port = t.port

theorem BenchPort.setFlag_setFlag (p : BenchPort) (f : EventFlag) : (p.setFlag f).setFlag f = p.setFlag f := by
  simp [BenchPort.setFlag, BenchPort.evalAttn, BitVec.or_assoc]

section
variable {s : State} {f : State → BayNo → State} {g : BayNo → Build → Build} {enters : BayNo → Build → Prop}
  (h : s.bayStepOf f g enters)
include h

theorem State.bayStepOf.foldl_frame : ∀ (bs : List BayNo) (t : State), t.changedOnly (bs.foldl f t) [.bays, .port] :=
  State.changedOnly_foldl f h.frame

/-- Each of the bays takes its step once. -/
theorem State.bayStepOf.foldl_bay (c : BayNo) : ∀ (bs : List BayNo) (t : State), s.changedOnly t [.bays, .port] →
    bs.Nodup → (bs.foldl f t).bay c = if c ∈ bs then (t.bay c).map (g c) else t.bay c
  | [], _, _, _ => rfl
  | b :: bs, t, ht, hnodup => by
    obtain ⟨hb, hbs⟩ := List.nodup_cons.mp hnodup
    rw [List.foldl_cons, State.bayStepOf.foldl_bay c bs (f t b) (State.changedOnly_trans ht (h.frame t b)) hbs, h.bay t b c ht]
    by_cases hcb : c = b
    · subst hcb
      simp [hb]
    · simp [hcb]

/-- BAY_READY is set where some bay's step sets it, and otherwise the port stays (R29). -/
theorem State.bayStepOf.foldl_port : ∀ (bs : List BayNo) (t : State), s.changedOnly t [.bays, .port] → bs.Nodup →
    ((∃ b ∈ bs, ∃ bd, t.bay b = some bd ∧ enters b bd) → (bs.foldl f t).port = t.port.setFlag .bayReady)
      ∧ ((∀ b ∈ bs, ∀ bd, t.bay b = some bd → ¬ enters b bd) → (bs.foldl f t).port = t.port)
  | [], _, _, _ => ⟨fun hex => by simp at hex, fun _ => rfl⟩
  | b :: bs, t, ht, hnodup => by
    obtain ⟨hb, hbs⟩ := List.nodup_cons.mp hnodup
    obtain ⟨hraises, hkeeps⟩ := State.bayStepOf.foldl_port bs (f t b) (State.changedOnly_trans ht (h.frame t b)) hbs
    have hother {c : BayNo} (hc : c ∈ bs) : (f t b).bay c = t.bay c := by
      rw [h.bay t b c ht, if_neg (show c ≠ b from fun e => hb (e ▸ hc))]
    have hrest : (∃ c ∈ bs, ∃ bd, t.bay c = some bd ∧ enters c bd) →
        (bs.foldl f (f t b)).port = (f t b).port.setFlag .bayReady := by
      rintro ⟨c, hc, bd, hbd, henters⟩
      exact hraises ⟨c, hc, bd, (hother hc).trans hbd, henters⟩
    have hnone : (∀ c ∈ bs, ∀ bd, t.bay c = some bd → ¬ enters c bd) → (bs.foldl f (f t b)).port = (f t b).port :=
      fun hno => hkeeps fun c hc bd hbd => hno c hc bd ((hother hc).symm.trans hbd)
    rw [List.foldl_cons]
    by_cases hhead : ∃ bd, t.bay b = some bd ∧ enters b bd
    · obtain ⟨bd, hbd, henters⟩ := hhead
      have hfirst := h.raises t b bd ht hbd henters
      refine ⟨fun _ => ?_, fun hno => absurd henters (hno b (List.mem_cons_self ..) bd hbd)⟩
      by_cases htail : ∃ c ∈ bs, ∃ bd, t.bay c = some bd ∧ enters c bd
      · rw [hrest htail, hfirst, BenchPort.setFlag_setFlag]
      · rw [hnone fun c hc bd hbd he => htail ⟨c, hc, bd, hbd, he⟩, hfirst]
    · have hfirst := h.keeps t b ht fun bd hbd he => hhead ⟨bd, hbd, he⟩
      refine ⟨?_, fun hno => ?_⟩
      · rintro ⟨c, hc, bd, hbd, henters⟩
        obtain rfl | hc := List.mem_cons.mp hc
        · exact absurd ⟨bd, hbd, henters⟩ hhead
        · rw [hrest ⟨c, hc, bd, hbd, henters⟩, hfirst]
      · rw [hnone fun c hc => hno c (List.mem_cons_of_mem _ hc), hfirst]

/-- The steps of some bays together. -/
theorem State.bayStepOf.foldl_eq {bs : List BayNo} (hbs : bs.Nodup) :
    let u := s.setBays (Vector.ofFn fun b : Fin 8 => if b ∈ bs then (s.bay b).map (g b) else s.bay b)
    ((∃ b ∈ bs, ∃ bd, s.bay b = some bd ∧ enters b bd) → bs.foldl f s = u.setFlag .bayReady)
      ∧ ((∀ b ∈ bs, ∀ bd, s.bay b = some bd → ¬ enters b bd) → bs.foldl f s = u) := by
  intro u
  have hwhole : bs.foldl f s = u.setPort (bs.foldl f s).port := by
    have hback : s.changedOnly ((bs.foldl f s).setPort s.port) [.bays] := by
      intro b hb
      have hframe := h.foldl_frame bs s b
      cases b <;> first | exact absurd (List.mem_singleton.mpr rfl) hb | rfl | exact hframe (by simp)
    have hbays := State.eq_setBays_ofFn hback (h.foldl_bay · bs s (s.changedOnly_refl _) hbs)
    have hsame : bs.foldl f s = ((bs.foldl f s).setPort s.port).setPort (bs.foldl f s).port := rfl
    exact hsame.trans (congrArg (State.setPort · (bs.foldl f s).port) hbays)
  obtain ⟨hraises, hkeeps⟩ := h.foldl_port bs s (s.changedOnly_refl _) hbs
  refine ⟨fun hex => ?_, fun hno => ?_⟩
  · rw [hwhole, hraises hex]
    rfl
  · rw [hwhole, hkeeps hno]
    rfl

end

/-! ## Cancel Build and Seal Build -/

section
variable {s : State} {b : BayNo}

/-- What a bay's return to EMPTY leaves (R19): the bay EMPTY, the change check, and where that finishes a CLOSING station
QUIET. -/
theorem State.returnToEmpty_eq (s : State) (b : BayNo) :
    s.returnToEmpty b = ((s.setBay b none).changeCheck).closingChecked := State.closingCheck_eq _

theorem State.changeCheck_isFinished (s : State) : s.changeCheck.isFinished ↔ s.isFinished :=
  State.isFinished_of_stock (s.changeCheck_changedOnly .ctl (by simp)) s.tried_changeCheck.1
    (s.changeCheck_changedOnly .lane (by simp))

end

section
variable {tx : List Byte} {n : Byte} {s : State} (hs : s.listens) (hm : s.ctl.mode ≠ .loading) (hb : carries tx [n])
include hs hm hb

theorem exec_cancelBuild_badArg (h : 8 ≤ n.toNat) :
    exec (.cancelBuild tx) s = .next (s.replied tx.length (bareReply .badArg)) := by
  refine congrArg Host.Outcome.next ((State.request_taken (n := 1) hs hb rfl hm).trans ?_)
  rw [cancelBuildOwner, fieldAt_single, bayOf_of_ge h]
  exact State.begin_finish _ _ hs.2

theorem exec_sealBuild_badArg (h : 8 ≤ n.toNat) :
    exec (.sealBuild tx) s = .next (s.replied tx.length (bareReply .badArg)) := by
  refine congrArg Host.Outcome.next ((State.request_taken (n := 1) hs hb rfl hm).trans ?_)
  rw [sealBuildOwner, fieldAt_single, bayOf_of_ge h]
  exact State.begin_finish _ _ hs.2

variable {b : BayNo} (hbay : b.val = n.toNat)
include hbay

/-- Cancel Build of a bay (R20). -/
theorem exec_cancelBuild : exec (.cancelBuild tx) s = .next
    (match s.bay b with
    | none => s.replied tx.length (bareReply .bayState)
    | some bd => if bd.hasPins = true then s.replied tx.length (bareReply .pinned)
      else (s.returnToEmpty b).replied tx.length (okReply (be 4 bd.orderRef.toNat ++ be 1 bd.lines.length))) := by
  refine congrArg Host.Outcome.next ((State.request_taken (n := 1) hs hb rfl hm).trans ?_)
  rw [cancelBuildOwner, fieldAt_single, bayOf_of_lt hbay]
  dsimp only
  rw [State.beginRequest_bay]
  cases s.bay b with
  | none => exact State.begin_finish _ _ hs.2
  | some bd =>
    dsimp only
    split
    · exact State.begin_finish _ _ hs.2
    · exact State.answered (f := fun t => t.returnToEmpty b) (fun t q => t.returnToEmpty_withReply q b) hs.2 _ _

/-- Seal Build of a bay (R21). -/
theorem exec_sealBuild : exec (.sealBuild tx) s = .next
    (match s.bay b with
    | none => s.replied tx.length (bareReply .bayState)
    | some bd => if bd.isReady = false then s.replied tx.length (bareReply .bayState)
      else (s.returnToEmpty b).replied tx.length (okReply bd.sealOutput)) := by
  refine congrArg Host.Outcome.next ((State.request_taken (n := 1) hs hb rfl hm).trans ?_)
  rw [sealBuildOwner, fieldAt_single, bayOf_of_lt hbay]
  dsimp only
  rw [State.beginRequest_bay]
  cases s.bay b with
  | none => exact State.begin_finish _ _ hs.2
  | some bd =>
    dsimp only
    split
    · exact State.begin_finish _ _ hs.2
    · exact State.answered (f := fun t => t.returnToEmpty b) (fun t q => t.returnToEmpty_withReply q b) hs.2 _ _

end

theorem Build.hasPins_iff {bd : Build} : bd.hasPins = true ↔ ∃ l ∈ bd.lines, 0 < l.pinned := by
  simp [Build.hasPins]

theorem Build.isReady_iff {bd : Build} : bd.isReady = true ↔ bd.work = .ready ∧ bd.held = false := by
  simp [Build.isReady]

theorem Build.sealOutput_eq (bd : Build) : bd.sealOutput = be 4 bd.orderRef.toNat ++ be 1 bd.lines.length
    ++ (bd.lines.zipIdx.flatMap fun li =>
      be 1 li.2 ++ code16 li.1.activeItem ++ be 1 li.1.placed ++ [if li.1.position = 0 then 0 else 1])
    ++ be 4 (bd.lines.map (·.placedValue)).sum ++ be 4 (bd.lines.map (·.placedWeight)).sum := by
  have hbyte (l : Line) : boolByte (l.position != 0) = if l.position = 0 then 0 else 1 := by
    by_cases h : l.position = 0 <;> simp [boolByte, h]
  simp only [Build.sealOutput, hbyte]

/-- Settles O21: the checks in order, and the bay back to EMPTY. -/
theorem cancelAndSealReturnTheBayToEmpty : Obligations.CancelAndSealReturnTheBayToEmpty := by
  intro tx n s hs hm hb emptied
  have hemptied (b : BayNo) (r : Reply) : emptied b r ((s.returnToEmpty b).replied tx.length r) := by
    let u := s.setBay b none
    let finished : Prop := s.ctl.mode = .closing ∧ (∀ c, u.bay c = none) ∧ s.lane.queue = []
    show _ ∧ _
    have hu : u.changeCheck.isFinished ↔ finished := u.changeCheck_isFinished
    have hframe := u.changeCheck_changedOnly
    have hctl : u.changeCheck.ctl = s.ctl := hframe .ctl (by simp)
    have hbays : u.changeCheck.bays = u.bays := hframe .bays (by simp)
    have hport : u.changeCheck.port = s.port := hframe .port (by simp)
    have hraises := (u.changeCheck).closingChecked_raises
    have hchanged := (u.changeCheck).closingChecked_modeChanged
    rw [hport] at hraises hchanged
    have hall : s.changedOnly (u.changeCheck).closingChecked [.bays, .ctl, .li, .port] :=
      State.changedOnly_trans
        (State.changedOnly_trans (State.changedOnly_mono (s.setBay_changedOnly _ _) (by simp))
          (State.changedOnly_mono hframe (by simp)))
        (State.changedOnly_mono (State.closingChecked_changedOnly _) (by simp))
    have hmarked := LineInterface.marked_trans u.changeCheck_marked (u.changeCheck).closingChecked_marked
    rw [State.returnToEmpty_eq]
    refine ⟨(State.closingChecked_bays _).trans hbays, ?_, fun hnot => ?_, LineInterface.marked_withMarker hmarked,
      State.replied_holds _ _ _, hraises.onlyRaises.replied _ _, hchanged.trans (or_congr_right hu), ?_⟩
    · refine (State.closingChecked_ctl _).trans ?_
      by_cases hf : finished
      · rw [if_pos hf, State.modeAfter_of_finished (hu.mpr hf), hctl]
      · rw [if_neg hf, State.modeAfter_of_unfinished (mt hu.mp hf), hctl]
    · have hsame := State.closingChecked_of_unfinished (mt hu.mp hnot)
      exact congrArg (fun t => (t.replied tx.length r).li) hsame
    · exact State.changedOnly_trans hall (State.changedOnly_mono (State.replied_changedOnly _ _ _) (by simp))
  refine ⟨fun h => ⟨exec_cancelBuild_badArg hs hm hb h, exec_sealBuild_badArg hs hm hb h⟩, fun b hbay => ⟨fun hnone => ?_,
    fun bd hbd => ⟨fun hpins => ?_, fun hfree => ?_, fun hnot => ?_, fun hready hheld => ?_⟩⟩⟩
  · rw [exec_cancelBuild hs hm hb hbay, exec_sealBuild hs hm hb hbay, hnone]
    exact ⟨rfl, rfl⟩
  · rw [exec_cancelBuild hs hm hb hbay, hbd]
    exact congrArg Host.Outcome.next (if_pos (Build.hasPins_iff.mpr hpins))
  · have hno : ¬ bd.hasPins = true := by
      rw [Build.hasPins_iff]
      rintro ⟨l, hl, hpos⟩
      exact absurd (hfree l hl) hpos.ne'
    refine ⟨_, ?_, hemptied b _⟩
    rw [exec_cancelBuild hs hm hb hbay, hbd]
    exact congrArg Host.Outcome.next (if_neg hno)
  · have hno : bd.isReady = false := by
      rw [← Bool.not_eq_true, Build.isReady_iff]
      rintro ⟨hready, hheld⟩
      exact hnot.elim (absurd hready) fun h => absurd (h.symm.trans hheld) (by simp)
    rw [exec_sealBuild hs hm hb hbay, hbd]
    exact congrArg Host.Outcome.next (if_pos hno)
  · have hyes : ¬ bd.isReady = false := by
      rw [Bool.not_eq_false, Build.isReady_iff]
      exact ⟨hready, hheld⟩
    refine ⟨_, ?_, hemptied b _⟩
    rw [exec_sealBuild hs hm hb hbay, hbd, ← Build.sealOutput_eq]
    exact congrArg Host.Outcome.next (if_neg hyes)

end Sys2Proof.Machine

/-! PROOF. Hold Bays and Release Bays (R34, R35): the mask, the bays it moves, and their new records. -/

namespace Sys2Proof.Machine

/-! ## Masks -/

theorem foldl_mask_getLsbD (c : BayNo) : ∀ (bs : List BayNo) (m : Byte),
    (bs.foldl (fun m b => m ||| (1#8 <<< b.val)) m).getLsbD c.val = (m.getLsbD c.val || decide (c ∈ bs))
  | [], m => by simp
  | b :: bs, m => by
    have hbit : ∀ b c : BayNo, (1#8 <<< b.val).getLsbD c.val = decide (c = b) := by decide
    rw [List.foldl_cons, foldl_mask_getLsbD c bs, BitVec.getLsbD_or, hbit]
    simp only [List.mem_cons, Bool.decide_or, Bool.or_assoc]

/-- The mask of some bays has bay b in position b (R185). -/
theorem maskOfBays_getLsbD (bs : List BayNo) (c : BayNo) : (maskOfBays bs).getLsbD c.val = decide (c ∈ bs) := by
  rw [maskOfBays, foldl_mask_getLsbD]
  simp

/-- The bays of a mask that meet a condition. -/
theorem baysOfMask_filter (mask : Byte) (p : BayNo → Bool) :
    (baysOfMask mask).filter p = allBays.filter fun b => mask.getLsbD b.val && p b := by
  rw [baysOfMask, List.filter_filter]
  exact List.filter_congr fun b _ => Bool.and_comm _ _

theorem mem_filter_allBays {p : BayNo → Bool} {b : BayNo} : b ∈ allBays.filter p ↔ p b = true := by
  rw [List.mem_filter, and_iff_right (mem_allBays b)]

theorem filter_allBays_nodup (p : BayNo → Bool) : (allBays.filter p).Nodup := allBays_nodup.filter p

theorem filter_allBays_eq_nil {p : BayNo → Bool} : allBays.filter p = [] ↔ ∀ b, p b = false := by
  simp [List.filter_eq_nil_iff, mem_allBays]

theorem maskOfBays_filter (p : BayNo → Bool) (b : BayNo) : (maskOfBays (allBays.filter p)).getLsbD b.val = p b := by
  rw [maskOfBays_getLsbD, Bool.eq_iff_iff, decide_eq_true_iff, mem_filter_allBays]

/-! ## Hold Bays -/

theorem hold_bayStepOf (s : State) :
    s.bayStepOf (fun t b => t.modifyBuild b Build.hold) (fun _ => Build.hold) (fun _ _ => False) where
  frame t b := State.changedOnly_mono (t.modifyBuild_changedOnly b _) (by simp)
  bay t b c _ := t.modifyBuild_bay b c _
  raises _ _ _ _ _ h := h.elim
  keeps t b _ _ := t.modifyBuild_changedOnly b _ .port (by simp)

/-- The bays after some of them are held, their accumulators stopped (R34, R48). -/
theorem State.held_reevaluated (s : State) {bs : List BayNo} (h : bs.Nodup) :
    (bs.foldl (fun t b => t.modifyBuild b Build.hold) s).reevaluate bs
      = s.setBays (Vector.ofFn fun b : Fin 8 =>
        if b ∈ bs then (s.bay b).map fun bd => bd.hold.stoppedAt s.clock else s.bay b) := by
  rw [((hold_bayStepOf s).foldl_eq h).2 fun _ _ _ _ => id]
  rw [State.reevaluate_of_not_offers h]
  · refine s.setBays_ofFn_congr fun b => ?_
    rw [State.bay_setBays_ofFn]
    by_cases hb : b ∈ bs
    · rw [if_pos hb, if_pos hb, if_pos hb, Option.map_map]
      rfl
    · rw [if_neg hb, if_neg hb, if_neg hb]
  · intro b hb bd hbd
    rw [State.bay_setBays_ofFn, if_pos hb, Option.map_eq_some_iff] at hbd
    obtain ⟨bd0, -, rfl⟩ := hbd
    exact .inr rfl

/-- Hold Bays at the bench port (R34). -/
theorem exec_holdBays {tx : List Byte} {mask : Byte} {s : State} (hs : s.listens) (hm : s.ctl.mode ≠ .loading)
    (hb : carries tx [mask]) : exec (.holdBays tx) s = .next
      ((((s.holdable mask).foldl (fun t b => t.modifyBuild b Build.hold) s).afterBayChanges (s.holdable mask)).replied
        tx.length (okReply [maskOfBays (s.holdable mask)])) := by
  refine congrArg Host.Outcome.next ((State.request_taken (n := 1) hs hb rfl hm).trans ?_)
  have hblind (t : State) (q : BenchPort) :
      ((s.holdable mask).foldl (fun t b => t.modifyBuild b Build.hold) (t.withReply q)).afterBayChanges (s.holdable mask)
        = (((s.holdable mask).foldl (fun t b => t.modifyBuild b Build.hold) t).afterBayChanges
          (s.holdable mask)).withReply q := by
    rw [State.foldl_withReply fun t b => State.modifyBuild_withReply t q b Build.hold, State.afterBayChanges_withReply]
  have howner : holdBaysOwner [mask] (s.beginRequest tx.length) =
      (((s.holdable mask).foldl (fun t b => t.modifyBuild b Build.hold) (s.beginRequest tx.length)).afterBayChanges
        (s.holdable mask), okReply [maskOfBays (s.holdable mask)]) := rfl
  rw [howner, State.beginRequest_eq_withReply hs.2, hblind, State.withReply_finishRequest]

/-- Settles O22: the held bays offer nothing, so their accumulators stop and no trial starts. -/
theorem holdBaysMovesTheNamedBaysToHeld : Obligations.HoldBaysMovesTheNamedBaysToHeld := by
  intro tx mask s hs hm hb moves held t
  have hbays : s.holdable mask = allBays.filter moves := baysOfMask_filter mask _
  have ht : ((allBays.filter moves).foldl (fun t b => t.modifyBuild b Build.hold) s).reevaluate (allBays.filter moves)
      = t := by
    rw [s.held_reevaluated (filter_allBays_nodup moves)]
    refine s.setBays_ofFn_congr fun b => ?_
    simp only [mem_filter_allBays]
    rfl
  refine ⟨maskOfBays (s.holdable mask), fun b => by rw [hbays, maskOfBays_filter], ?_⟩
  rw [exec_holdBays hs hm hb, hbays]
  by_cases hnone : ∀ b, moves b = false
  · have hsame : t = s := (State.eq_setBays_ofFn (s.changedOnly_refl _) fun b => by simp [hnone b]).symm
    rw [if_pos hnone, hsame, filter_allBays_eq_nil.mpr hnone]
    rfl
  · rw [if_neg hnone, State.afterBayChanges, if_neg (mt filter_allBays_eq_nil.mp hnone), ht]

/-! ## Release Bays -/

theorem State.newChillExpiry_of_frame {s t : State} {bs : List Block} (h : s.changedOnly t bs)
    (hbs : .clock ∉ bs ∧ .loader ∉ bs) : t.newChillExpiry = s.newChillExpiry := by
  have hclock : t.clock = s.clock := h .clock hbs.1
  have hloader : t.loader = s.loader := h .loader hbs.2
  rw [State.newChillExpiry, State.newChillExpiry, hclock, hloader]

theorem State.releaseBay_of_some {s : State} {b : BayNo} {bd : Build} (h : s.bay b = some bd) : s.releaseBay b =
    if bd.work = .ready then (s.setBay b (some (bd.release s.newChillExpiry))).setFlag .bayReady
    else s.setBay b (some (bd.release s.newChillExpiry)) := by
  rw [State.releaseBay, h]

theorem State.releaseBay_of_none {s : State} {b : BayNo} (h : s.bay b = none) : s.releaseBay b = s := by
  rw [State.releaseBay, h]

theorem State.releaseBay_bay (s : State) (b c : BayNo) :
    (s.releaseBay b).bay c = if c = b then (s.bay b).map (Build.release s.newChillExpiry) else s.bay c := by
  cases hbd : s.bay b with
  | none =>
    rw [State.releaseBay_of_none hbd]
    split
    · next hc => rw [hc, hbd]; rfl
    · rfl
  | some bd =>
    rw [State.releaseBay_of_some hbd]
    have hset := s.bay_setBay b c (some (bd.release s.newChillExpiry))
    split
    · exact hset
    · exact hset

theorem release_bayStepOf (s : State) :
    s.bayStepOf State.releaseBay (fun _ => Build.release s.newChillExpiry) (fun _ bd => bd.work = .ready) where
  frame t b := t.releaseBay_changedOnly b
  bay t b c ht := by rw [t.releaseBay_bay b c, State.newChillExpiry_of_frame ht (by simp)]
  raises t b bd _ hbd hready := by
    rw [State.releaseBay_of_some hbd, if_pos hready]
    rfl
  keeps t b _ hno := by
    cases hbd : t.bay b with
    | none => rw [State.releaseBay_of_none hbd]
    | some bd =>
      rw [State.releaseBay_of_some hbd, if_neg (hno bd hbd)]
      rfl

theorem Build.release_eq (bd : Build) (expiry : Nat) : bd.release expiry =
    { bd with
      held := false
      chillExpiry := if bd.lapse = true then some expiry else bd.chillExpiry
      lapse := false } := by
  unfold Build.release
  by_cases h : bd.lapse = true
  · rw [if_pos h, if_pos h]
  · rw [if_neg h, if_neg h, ← show bd.lapse = false from Bool.not_eq_true _ ▸ h]

/-- Release Bays at the bench port (R35). -/
theorem exec_releaseBays {tx : List Byte} {mask : Byte} {s : State} (hs : s.listens) (hm : s.ctl.mode ≠ .loading)
    (hb : carries tx [mask]) : exec (.releaseBays tx) s = .next
      ((((s.releasable mask).foldl State.releaseBay s).afterBayChanges (s.releasable mask)).replied
        tx.length (okReply [maskOfBays (s.releasable mask)])) := by
  refine congrArg Host.Outcome.next ((State.request_taken (n := 1) hs hb rfl hm).trans ?_)
  have hblind (t : State) (q : BenchPort) := State.foldl_withReply (q := q)
    (fun t b => State.releaseBay_withReply t q b) (s.releasable mask) t
  have howner : releaseBaysOwner [mask] (s.beginRequest tx.length) =
      (((s.releasable mask).foldl State.releaseBay (s.beginRequest tx.length)).afterBayChanges
        (s.releasable mask), okReply [maskOfBays (s.releasable mask)]) := rfl
  rw [howner]
  exact State.answered
    (f := fun t => ((s.releasable mask).foldl State.releaseBay t).afterBayChanges (s.releasable mask))
    (fun t q => (congrArg (State.afterBayChanges · (s.releasable mask)) (hblind t q)).trans
      (State.afterBayChanges_withReply _ q _)) hs.2 _ _

/-! ## The change check made twice -/

theorem State.offerMarker_twice (s : State) : s.offerMarker.offerMarker.li = s.offerMarker.li := by
  by_cases h : s.ctl.mode ≠ .muted ∧ s.li.queue.length < queuePlaces ∧ s.li.queue.any Notice.isMarker = false
  · have hjoined : s.offerMarker = s.setQueue (s.li.queue ++ [Notice.fresh none]) := if_pos h
    have hmarker : ¬ ((s.setQueue (s.li.queue ++ [Notice.fresh none])).ctl.mode ≠ .muted
        ∧ (s.setQueue (s.li.queue ++ [Notice.fresh none])).li.queue.length < queuePlaces
        ∧ (s.setQueue (s.li.queue ++ [Notice.fresh none])).li.queue.any Notice.isMarker = false) := by
      rintro ⟨-, -, hno⟩
      have hlast : (s.li.queue ++ [Notice.fresh none]).any Notice.isMarker = true := by
        simp [Notice.isMarker, Notice.fresh]
      cases hlast.symm.trans hno
    rw [hjoined]
    exact congrArg State.li (if_neg hmarker)
  · have hsame : s.offerMarker = s := if_neg h
    rw [hsame, hsame]

/-- A second change check offers nothing more (R62, R91). -/
theorem State.changeCheck_twice (s : State) : s.changeCheck.changeCheck.li = s.changeCheck.li := by
  by_cases h : s.ctl.mode ≠ .loading ∧ s.ctl.mode ≠ .muted ∧ demandDiffers s.freshSet s.peers.lastSent = true
  · have hoffered : s.changeCheck = s.offerMarker := if_pos h
    have hbays : s.offerMarker.bays = s.bays := s.offerMarker_changedOnly .bays (by simp)
    rw [hoffered]
    by_cases hagain : s.offerMarker.ctl.mode ≠ .loading ∧ s.offerMarker.ctl.mode ≠ .muted
        ∧ demandDiffers s.offerMarker.freshSet s.offerMarker.peers.lastSent = true
    · exact (congrArg State.li (if_pos hagain)).trans s.offerMarker_twice
    · exact congrArg State.li (if_neg hagain)
  · have hsame : s.changeCheck = s := if_neg h
    rw [hsame, hsame]

theorem State.replied_changeCheck_li (s : State) (n : Nat) (r : Reply) :
    (s.replied n r).changeCheck.li = s.changeCheck.li := by
  have hreply : s.replied n r = s.withReply
      { s.port with state := .idle, reply := some r, ready := true, miso := 0x5A#8 :: List.replicate n 0#8 } := rfl
  rw [hreply, State.changeCheck_withReply]
  rfl

/-- Settles O23: the released bays as one vector, with BAY_READY where one of them is READY, and then the evaluation of
their accumulators. -/
theorem releaseBaysReturnsToTheResumeState : Obligations.ReleaseBaysReturnsToTheResumeState := by
  intro tx mask s hs hm hb moves released entersReady u
  have hbays : s.releasable mask = allBays.filter moves := baysOfMask_filter mask _
  have hnodup := filter_allBays_nodup moves
  have hmem {b : BayNo} : b ∈ allBays.filter moves ↔ moves b = true := mem_filter_allBays
  have hmoved := (release_bayStepOf s).foldl_eq hnodup
  have hu : s.setBays (Vector.ofFn fun b : Fin 8 =>
      if b ∈ allBays.filter moves then (s.bay b).map (Build.release s.newChillExpiry) else s.bay b) = u := by
    refine s.setBays_ofFn_congr fun b => ?_
    have hrelease : Build.release s.newChillExpiry = released := funext fun bd => bd.release_eq _
    simp only [hmem, hrelease]
  rw [hu] at hmoved
  refine ⟨maskOfBays (s.releasable mask), fun b => by rw [hbays, maskOfBays_filter], fun hnone => ?_, fun hsome => ?_⟩
  · rw [exec_releaseBays hs hm hb, hbays, filter_allBays_eq_nil.mpr hnone]
    rfl
  have hnotNil : allBays.filter moves ≠ [] := by
    rw [Ne, filter_allBays_eq_nil]
    obtain ⟨b, hbm⟩ := hsome
    intro hall
    cases hbm.symm.trans (hall b)
  have henters : entersReady ↔ ∃ b ∈ allBays.filter moves, ∃ bd, s.bay b = some bd ∧ bd.work = .ready := by
    simp only [hmem]
    constructor
    · rintro ⟨b, bd, hb, hbd, hready⟩
      exact ⟨b, hb, bd, hbd, hready⟩
    · rintro ⟨b, hb, bd, hbd, hready⟩
      exact ⟨b, bd, hb, hbd, hready⟩
  obtain ⟨v, hv, hvyes, hvno⟩ : ∃ v, v = (allBays.filter moves).foldl State.releaseBay s
      ∧ (entersReady → v = u.setFlag .bayReady) ∧ (¬ entersReady → v = u) :=
    ⟨_, rfl, fun h => hmoved.1 (henters.mp h), fun h => hmoved.2 fun b hb bd hbd hready => h
      (henters.mpr ⟨b, hb, bd, hbd, hready⟩)⟩
  have hvport : v.port = s.port ∨ v.port = s.port.setFlag .bayReady := by
    by_cases h : entersReady
    · exact .inr (congrArg State.port (hvyes h))
    · exact .inl ((congrArg State.port (hvno h)).trans rfl)
  have hvready : EventFlag.bayReady.isSet v.port = true ↔ EventFlag.bayReady.isSet s.port = true ∨ entersReady := by
    by_cases h : entersReady
    · rw [show v.port = s.port.setFlag .bayReady from congrArg State.port (hvyes h)]
      simp [BenchPort.isSet_setFlag, h]
    · rw [show v.port = s.port from (congrArg State.port (hvno h)).trans rfl]
      simp [h]
  have hvraises : s.port.raisedTo v.port [.bayReady] := by
    rcases hvport with h | h
    · rw [h]
      exact BenchPort.raisedTo_refl _ _
    · rw [h]
      exact BenchPort.setFlag_raisedTo _ _
  have huv : u.changedOnly v [.port] := by
    by_cases h : entersReady
    · rw [hvyes h]
      exact u.setFlag_changedOnly _
    · rw [hvno h]
      exact u.changedOnly_refl _
  have hsv : s.changedOnly v [.bays, .port] :=
    State.changedOnly_trans (State.changedOnly_mono (s.setBays_changedOnly _) (by simp))
      (State.changedOnly_mono huv (by simp))
  have hvbay (b : BayNo) : v.bay b = u.bay b := by
    rw [State.bay, show v.bays = u.bays from huv .bays (by simp)]
    rfl
  have hvli : v.li = s.li := hsv .li (by simp)
  have hvdev : v.dev = s.dev := hsv .dev (by simp)
  have hvclock : v.clock = s.clock := hsv .clock (by simp)
  have htries : u.triesMade (v.reevaluate (allBays.filter moves)) (allBays.filter moves) := by
    have hmade := v.reevaluate_triesMade hnodup
    by_cases h : entersReady
    · rw [hvyes h] at hmade ⊢
      exact hmade
    · rw [hvno h] at hmade ⊢
      exact hmade
  have hothers (b : BayNo) (hb : moves b = false) : (v.reevaluate (allBays.filter moves)).bay b = s.bay b := by
    rw [State.reevaluate_bay_of_not_mem hnodup (by rw [hmem, hb]; simp), hvbay, State.bay_setBays_ofFn, if_neg (by simp [hb])]
  have hraises : v.port.raisedTo (v.reevaluate (allBays.filter moves)).port [.deviation] :=
    (v.reevaluate_loggedTo _).port
  obtain ⟨⟨rstock, -, rdev, -, rframe⟩, rmarked, rfollow⟩ := v.reevaluate_spec (allBays.filter moves)
  have hexec : exec (.releaseBays tx) s = .next (((v.reevaluate (allBays.filter moves)).changeCheck).replied tx.length
      (okReply [maskOfBays (s.releasable mask)])) := by
    rw [exec_releaseBays hs hm hb, hbays, ← hv, State.afterBayChanges, if_neg hnotNil]
  rw [hvli] at rmarked
  rw [hvdev, hvclock] at rdev
  generalize hw : v.reevaluate (allBays.filter moves) = w at *
  obtain ⟨cstock, cfollow, cmarked, -, -, cframe⟩ := w.tried_changeCheck
  have hframe := w.changeCheck_changedOnly
  have hwbays : w.changeCheck.bays = w.bays := hframe .bays (by simp)
  have hwport : w.changeCheck.port = w.port := hframe .port (by simp)
  have hwdev : w.changeCheck.dev = w.dev := hframe .dev (by simp)
  have hport : s.port.raisedTo w.changeCheck.port [.bayReady, .deviation] := by
    rw [hwport]
    exact BenchPort.raisedTo_trans (BenchPort.raisedTo_mono hvraises (by simp)) (BenchPort.raisedTo_mono hraises (by simp))
  have hready : EventFlag.bayReady.isSet w.changeCheck.port = true
      ↔ EventFlag.bayReady.isSet s.port = true ∨ entersReady := by
    rw [hwport, hraises.isSet_eq (by simp)]
    exact hvready
  refine ⟨v, _, hvyes, hvno, hexec, by rw [hw], (htries.of_bays hwbays).replied _ _, ?_, fun b => ?_, fun b hb => ?_, fun b hb => ?_,
    LineInterface.marked_withMarker (LineInterface.marked_trans rmarked cmarked), ?_, State.replied_holds _ _ _,
    hport.onlyRaises.replied _ _, hready, ?_⟩
  · exact (State.replied_changeCheck_li _ _ _).trans w.changeCheck_twice
  · exact (State.sameStock_trans rstock cstock b).trans (congrArg _ (hvbay b))
  · exact (cfollow b (rfollow b (.inl (hmem.mpr hb)))).replied _ _
  · exact (congrArg (fun x : Vector (Option Build) 8 => x[b]) hwbays).trans (hothers b hb)
  · exact hwdev ▸ rdev
  · exact State.changedOnly_trans (State.changedOnly_trans
      (State.changedOnly_trans (State.changedOnly_mono hsv (by simp)) (State.changedOnly_mono rframe (by simp)))
        (State.changedOnly_mono hframe (by simp)))
      (State.changedOnly_mono (State.replied_changedOnly _ _ _) (by simp))

end Sys2Proof.Machine

/-! PROOF. Open Build accepted (R15, R16): the new record with its accumulators evaluated, and its deadline taken at once
where it is already reached (R37). -/

namespace Sys2Proof.Machine

/-! ## The bay -/

theorem State.setBay_setBay (s : State) (b : BayNo) (x y : Option Build) : (s.setBay b x).setBay b y = s.setBay b y := by
  rw [State.setBay_eq_ofFn _ b y, State.setBay_eq_ofFn s b y]
  refine State.setBays_ofFn_congr s fun c => ?_
  by_cases hc : c = b
  · rw [if_pos hc, if_pos hc]
  · rw [if_neg hc, if_neg hc, State.bay_setBay_of_ne s b c x hc]

theorem State.evalBays_setBay (s : State) (b : BayNo) (bd : Build) :
    (s.setBay b (some bd)).evalBays [b] = s.setBay b (some (evalBuild s.ctl.mode s.items s.clock bd)) := by
  show (s.setBay b (some bd)).modifyBuild b (evalBuild s.ctl.mode s.items s.clock) = _
  rw [State.modifyBuild, State.bay_setBay_self]
  exact s.setBay_setBay b _ _

/-- A deadline already reached when its build is set up is taken at once (R37, R159). -/
theorem State.deadlineAtOnce_setBay (s : State) (b : BayNo) {bd : Build} (hwork : bd.work ≠ .ready) :
    (s.setBay b (some bd)).deadlineAtOnce b bd.deadline = if bd.deadline ≤ s.clock then
        (s.setBay b (some { bd with deadlinePending := false, deadlineReported := true })).record
          (.deadlineMissed b bd.orderRef)
      else s.setBay b (some bd) := by
  rw [State.deadlineAtOnce]
  refine if_congr Iff.rfl ?_ rfl
  rw [State.takeDeadline_eq (s.bay_setBay_self b (some bd)), if_neg fun h => hwork h.1, State.setBay_setBay]

/-! ## The new record -/

section
variable {s : State} {p : BuildParams}

/-- Some line of the build is ambient (R15). -/
def State.anyAmbient (s : State) (p : BuildParams) : Bool := p.lines.any fun e => !isChilled s.items e.primary

theorem State.newBuild_work (s : State) (p : BuildParams) :
    (s.newBuild p).work = if s.anyAmbient p = true then .gathering else .chilling := by
  have hany : (p.records.any fun l => !l.chilled s.items) = s.anyAmbient p := List.any_map
  rw [State.newBuild, hany]

theorem State.newBuild_offers (s : State) (p : BuildParams) (chilled : Bool) :
    (s.newBuild p).offers chilled = (chilled == !s.anyAmbient p) := by
  rw [Build.offers, State.newBuild_work]
  cases s.anyAmbient p <;> cases chilled <;> rfl

/-- The accumulators of a new build that run: those of the class its bay offers first (R24, R48). -/
theorem State.newBuild_running {e : LineParams} (hordered : 1 ≤ e.ordered) (hmode : s.ctl.mode ≠ .closing) :
    running s.ctl.mode s.items (s.newBuild p) e.line = true
      ↔ (s.ctl.mode = .settling ∨ s.ctl.mode = .active) ∧ isChilled s.items e.primary = !s.anyAmbient p := by
  have hneeded : 0 < e.line.needed := hordered
  have hmodes : s.ctl.mode.advertises = true ↔ s.ctl.mode = .settling ∨ s.ctl.mode = .active := by
    rw [Mode.advertises_iff]
    tauto
  have hpinned : (e.line.pinned == 0) = true := rfl
  rw [running, advertised, State.newBuild_offers, hpinned, Bool.and_true, Bool.and_eq_true, Bool.and_eq_true,
    decide_eq_true_eq, and_iff_left hneeded, hmodes, beq_iff_eq]
  rfl

/-- A line of a new build once its accumulator is evaluated (R15, R47, R48). -/
theorem State.newBuild_evalLine {e : LineParams} (hordered : 1 ≤ e.ordered) (hmode : s.ctl.mode ≠ .closing) :
    evalLine s.ctl.mode s.items s.clock (s.newBuild p) e.line =
      { primary := e.primary, substitutes := e.substitutes, position := 0, ordered := e.ordered, placed := 0
        pinned := 0, placedValue := 0, placedWeight := 0
        wait :=
          { stored := 0
            runStart := if (s.ctl.mode = .settling ∨ s.ctl.mode = .active)
                ∧ isChilled s.items e.primary = !s.anyAmbient p then some s.clock else none }
        exhausted := false, trialMark := false } := by
  have hrun := State.newBuild_running (s := s) (p := p) hordered hmode
  by_cases h : (s.ctl.mode = .settling ∨ s.ctl.mode = .active) ∧ isChilled s.items e.primary = !s.anyAmbient p
  · rw [evalLine_of_running (hrun.mpr h), if_pos h]
    rfl
  · rw [evalLine_of_not_running (Bool.eq_false_iff.mpr (mt hrun.mp h)), if_neg h]
    rfl

/-- An accepted Open Build (R15, R37, R47). -/
theorem State.openBuild_eq (s : State) (b : BayNo) (p : BuildParams) : s.openBuild b p =
    (let bd := evalBuild s.ctl.mode s.items s.clock (s.newBuild p)
    if bd.deadline ≤ s.clock then
      (s.setBay b (some { bd with deadlinePending := false, deadlineReported := true })).record
        (.deadlineMissed b p.orderRef)
    else s.setBay b (some bd)).changeCheck := by
  have hwork : (evalBuild s.ctl.mode s.items s.clock (s.newBuild p)).work ≠ .ready := by
    show (s.newBuild p).work ≠ .ready
    rw [State.newBuild_work]
    split <;> exact nofun
  rw [State.openBuild, State.evalBays_setBay]
  exact congrArg State.changeCheck (State.deadlineAtOnce_setBay s b hwork)

/-- The checks of R14 all pass where the part accepts the build. -/
theorem State.acceptsBuild.checks (h : s.acceptsBuild p) (hp : p.fits) : s.checkBuild p = none := by
  obtain ⟨hmode, hcount, hmax, hceil, hlines, hknown, hchill, hpool, hfloor, hceiling⟩ := h
  have hceiling' : p.ceiling ≤ 65535 := by
    obtain ⟨-, -, -, hc, -⟩ := hp
    omega
  rw [State.checkBuild_eq_none_iff]
  exact ⟨hmode, (BuildParams.wellFormed_iff hceiling').mpr ⟨hcount, hmax, hceil, hlines⟩, hknown, hchill, hpool,
    (projectedValue_records s.items p).symm ▸ hfloor, (projectedWeight_records s.items p).symm ▸ hceiling⟩

end

/-- An accepted Open Build at the bench port (R16). -/
theorem exec_openBuild_accepted {tx : List Byte} {p : BuildParams} {b : BayNo} {s : State} (hs : s.listens)
    (hm : s.ctl.mode ≠ .loading) (hp : p.fits) (hb : carries tx p.bytes) (hbay : b.val = p.bay)
    (hempty : s.bay b = none) (h : s.checkBuild p = none) :
    exec (.openBuild tx) s = .next ((s.openBuild b p).replied tx.length (okReply (s.openOutput b p))) := by
  rw [exec_openBuild hs hm hp hb, openBuildOwner_checked hp hbay hempty, h]
  exact congrArg Host.Outcome.next
    (State.answered (f := fun t => t.openBuild b p) (fun t q => t.openBuild_withReply q b p) hs.2 _ _)

/-- Settles O19: the record set up, its accumulators by what the bay offers first, and the deadline by whether it is
already reached. -/
theorem openBuildSetsUpTheBuild : Obligations.OpenBuildSetsUpTheBuild := by
  intro tx p b s hs hm hp _ hb hbay hempty haccepts deadline total anyAmbient advertises late line build opened
  have hchecks := haccepts.checks hp
  obtain ⟨hmode, -, -, -, hlines, -⟩ := haccepts
  have hbuilt : (evalBuild s.ctl.mode s.items s.clock (s.newBuild p)).lines = p.lines.map line := by
    show (p.lines.map LineParams.line).map _ = _
    rw [List.map_map]
    exact List.map_congr_left fun e he => State.newBuild_evalLine (hlines e he).1 hmode
  have htotal : totalOrdered p.records = total := by
    rw [totalOrdered, BuildParams.records, List.map_map]
    rfl
  have hevaluated : evalBuild s.ctl.mode s.items s.clock (s.newBuild p)
      = { build with deadlinePending := true, deadlineReported := false } :=
    (Build.mk.injEq ..).mpr ⟨s.newBuild_work p, rfl, rfl, rfl, rfl, rfl, rfl, hbuilt, htotal, rfl, rfl, rfl⟩
  have hstate : s.openBuild b p
      = (if late = true then opened.record (.deadlineMissed b p.orderRef) else opened).changeCheck := by
    rw [State.openBuild_eq, hevaluated]
    refine congrArg State.changeCheck ?_
    by_cases hlate : deadline ≤ s.clock
    · have hbuild : build = { build with deadlinePending := false, deadlineReported := true } := by
        simp only [build, late, hlate, decide_true, Bool.not_true]
      rw [if_pos (decide_eq_true hlate)]
      refine (if_pos hlate).trans ?_
      exact congrArg (fun x => (s.setBay b (some x)).record (.deadlineMissed b p.orderRef)) hbuild.symm
    · have hbuild : build = { build with deadlinePending := true, deadlineReported := false } := by
        simp only [build, late, hlate, decide_false, Bool.not_false]
      have hnot : ¬ late = true := fun h => hlate (of_decide_eq_true h)
      exact (if_neg hlate).trans ((congrArg (fun x => s.setBay b (some x)) hbuild.symm).trans (if_neg hnot).symm)
  have houtput : s.openOutput b p = be 1 p.bay ++ be 4 deadline ++ be 2 total
      ++ be 4 (p.lines.map fun e => e.ordered * unitValue s.items e.primary).sum
      ++ be 4 (p.lines.map fun e => e.ordered * unitWeight s.items e.primary).sum
      ++ be 1 (s.poolFree - p.lines.length) := by
    rw [State.openOutput, projectedValue_records, projectedWeight_records, hbay,
      show (s.newBuild p).total = total from htotal]
    rfl
  rw [exec_openBuild_accepted hs hm hp hb hbay hempty hchecks, hstate, houtput]

end Sys2Proof.Machine

/-! PROOF. Departures from the lane (R124 to R126, R132): pins and placements as one change of every line, the settlement
of the tote's count, and what the end of a departure leaves. -/

namespace Sys2Proof.Machine

/-! ## Every line of every bay -/

/-- A build with every line changed by its place. -/
def Build.mapLines (h : Nat → Line → Line) (bd : Build) : Build :=
  { bd with lines := bd.lines.zipIdx.map fun li => h li.2 li.1 }

/-- `s` with the build of every bay changed. -/
def State.mapBays (s : State) (g : BayNo → Build → Build) : State :=
  s.setBays (Vector.ofFn fun b : Fin 8 => (s.bay b).map (g b))

@[simp] theorem State.mapBays_bay (s : State) (g : BayNo → Build → Build) (b : BayNo) :
    (s.mapBays g).bay b = (s.bay b).map (g b) := s.bay_setBays_ofFn _ b

theorem State.mapBays_changedOnly (s : State) (g : BayNo → Build → Build) : s.changedOnly (s.mapBays g) [.bays] :=
  s.setBays_changedOnly _

theorem State.mapBays_mapBays (s : State) (g h : BayNo → Build → Build) :
    (s.mapBays g).mapBays h = s.mapBays fun b bd => h b (g b bd) := by
  refine State.setBays_ofFn_congr s fun b => ?_
  rw [State.mapBays_bay, Option.map_map]
  rfl

theorem State.mapBays_congr (s : State) {g h : BayNo → Build → Build} (e : ∀ b bd, s.bay b = some bd → g b bd = h b bd) :
    s.mapBays g = s.mapBays h := by
  refine State.setBays_ofFn_congr s fun b => ?_
  cases hbd : s.bay b with
  | none => rfl
  | some bd => exact congrArg some (e b bd hbd)

theorem State.mapBays_id (s : State) : s.mapBays (fun _ bd => bd) = s :=
  (State.eq_setBays_ofFn (s.changedOnly_refl _) fun b => by simp).symm

theorem Build.mapLines_getElem? (h : Nat → Line → Line) (bd : Build) (i : Nat) :
    (bd.mapLines h).lines[i]? = (bd.lines[i]?).map (h i) := by
  simp only [Build.mapLines, List.getElem?_map, List.getElem?_zipIdx, Nat.zero_add]
  cases bd.lines[i]? <;> rfl

theorem Build.mapLines_mapLines (g h : Nat → Line → Line) (bd : Build) :
    (bd.mapLines g).mapLines h = bd.mapLines fun i l => h i (g i l) := by
  have hlines : ((bd.mapLines g).mapLines h).lines = (bd.mapLines fun i l => h i (g i l)).lines := by
    refine List.ext_getElem? fun i => ?_
    rw [Build.mapLines_getElem?, Build.mapLines_getElem?, Build.mapLines_getElem?, Option.map_map]
    rfl
  exact congrArg (fun ls => { bd with lines := ls }) hlines

theorem Build.mapLines_of_id {h : Nat → Line → Line} (e : ∀ i l, h i l = l) (bd : Build) : bd.mapLines h = bd := by
  have hlines : (bd.mapLines h).lines = bd.lines := by
    refine List.ext_getElem? fun i => ?_
    rw [Build.mapLines_getElem?, show h i = id from funext (e i), Option.map_id]
    rfl
  exact congrArg (fun ls => { bd with lines := ls }) hlines

theorem Build.modify_eq_mapLines (bd : Build) (i : Nat) (f : Line → Line) :
    ({ bd with lines := bd.lines.modify i f } : Build) = bd.mapLines fun k l => if k = i then f l else l := by
  have hlines : bd.lines.modify i f = (bd.mapLines fun k l => if k = i then f l else l).lines := by
    refine List.ext_getElem? fun k => ?_
    rw [Build.mapLines_getElem?, List.getElem?_modify]
    by_cases hk : k = i
    · simp [hk]
    · simp [hk, Ne.symm hk]
  exact congrArg (fun ls => { bd with lines := ls }) hlines

/-- A change of one line, as a change of every line. -/
theorem State.modifyLine_eq_mapBays (s : State) (b : BayNo) (i : Nat) (f : Line → Line) :
    s.modifyLine b i f = s.mapBays fun c => Build.mapLines fun k l => if c = b ∧ k = i then f l else l := by
  refine State.eq_setBays_ofFn (s.modifyLine_changedOnly b i f) fun c => ?_
  rw [State.modifyLine, State.modifyBuild_bay]
  by_cases hc : c = b
  · subst hc
    rw [if_pos rfl]
    cases s.bay c with
    | none => rfl
    | some bd =>
      refine congrArg some ((bd.modify_eq_mapLines i f).trans ?_)
      simp only [true_and]
  · rw [if_neg hc]
    cases s.bay c with
    | none => rfl
    | some bd => exact congrArg some (Build.mapLines_of_id (fun k l => if_neg fun h => hc h.1) bd).symm

/-- Changes of single lines, one after another, as one change of every line: `H` says what they add up to. -/
theorem State.foldl_modifyLine {α : Type} {s : State} {step : State → α → State} {bay : α → BayNo} {line : α → Nat}
    {f : α → Line → Line} {H : List α → BayNo → Nat → Line → Line}
    (hstep : ∀ (t : State) (x : α), s.changedOnly t [.bays] → step t x = t.modifyLine (bay x) (line x) (f x))
    (hnil : ∀ b i l, H [] b i l = l)
    (hcons : ∀ x xs b i l, H (x :: xs) b i l = H xs b i (if b = bay x ∧ i = line x then f x l else l)) :
    ∀ (xs : List α) (t : State), s.changedOnly t [.bays] →
      xs.foldl step t = t.mapBays fun b => Build.mapLines (H xs b)
  | [], t, _ => by
    have hid : t.mapBays (fun b => Build.mapLines (H [] b)) = t.mapBays fun _ bd => bd :=
      t.mapBays_congr fun b bd _ => Build.mapLines_of_id (hnil b) bd
    rw [hid, State.mapBays_id]
    rfl
  | x :: xs, t, ht => by
    have hnext : s.changedOnly (step t x) [.bays] := by
      rw [hstep t x ht]
      exact State.changedOnly_trans ht (t.modifyLine_changedOnly _ _ _)
    rw [List.foldl_cons, State.foldl_modifyLine hstep hnil hcons xs (step t x) hnext, hstep t x ht,
      State.modifyLine_eq_mapBays, State.mapBays_mapBays]
    refine t.mapBays_congr fun b bd _ => ?_
    rw [Build.mapLines_mapLines]
    exact congrArg (Build.mapLines · bd) (funext fun i => funext fun l => (hcons x xs b i l).symm)

/-! ## Pins -/

theorem grantedOn_cons (b : BayNo) (i : Nat) (a : Allocation) (as : List Allocation) :
    grantedOn b i (a :: as) = (if b = a.bay ∧ i = a.line then a.granted else 0) + grantedOn b i as := by
  have hnames : (a.bay == b && a.line == i) = true ↔ b = a.bay ∧ i = a.line := by
    rw [Bool.and_eq_true, beq_iff_eq, beq_iff_eq, eq_comm, eq_comm (a := a.line)]
  unfold grantedOn
  by_cases h : b = a.bay ∧ i = a.line
  · rw [List.filter_cons_of_pos (p := fun a : Allocation => a.bay == b && a.line == i) (hnames.mpr h), if_pos h,
      List.map_cons, List.sum_cons]
  · rw [List.filter_cons_of_neg (p := fun a : Allocation => a.bay == b && a.line == i) (mt hnames.mp h), if_neg h,
      Nat.zero_add]

/-- The units of a departing entry unpinned (R9, R124). -/
theorem State.unpinAll_eq (s : State) (as : List Allocation) : s.unpinAll as = s.mapBays (Build.unpinned as) := by
  refine State.foldl_modifyLine (H := fun as b i l => { l with pinned := l.pinned - grantedOn b i as })
    (fun t a _ => rfl) (fun b i l => rfl) (fun a as b i l => ?_) as s (s.changedOnly_refl _)
  rw [grantedOn_cons]
  by_cases h : b = a.bay ∧ i = a.line
  · rw [if_pos h, if_pos h, Nat.sub_add_eq]
  · rw [if_neg h, if_neg h, Nat.zero_add]

/-- The units of a divert pinned (R9, R116). -/
theorem State.pinAll_eq (s : State) (as : List Allocation) :
    as.foldl State.pin s = s.mapBays (Build.pinnedWith as) := by
  refine State.foldl_modifyLine (H := fun as b i l => { l with pinned := l.pinned + grantedOn b i as })
    (fun t a _ => rfl) (fun b i l => rfl) (fun a as b i l => ?_) as s (s.changedOnly_refl _)
  rw [grantedOn_cons]
  by_cases h : b = a.bay ∧ i = a.line
  · rw [if_pos h, if_pos h, Nat.add_assoc]
  · rw [if_neg h, if_neg h, Nat.zero_add]

/-! ## The settlement -/

theorem State.settle_of_entry {s : State} {l : LaneEntry} {x : ToteEntry} (h : s.toteEntry l.tote = some x)
    (f : ToteEntry → ToteEntry) : s.settle l f =
      (s.setTotes { s.totes with table := s.totes.table.map fun y => if y.tote = l.tote then settledEntry l f y else y
        }).offerTally (settledEntry l f x).tally := by
  simp only [State.settle, h, beq_iff_eq]
  rfl

/-- What an offered TALLY leaves of the queue depends on it and the mode alone (R61). -/
theorem State.offerTally_li_congr {s t : State} (hctl : t.ctl = s.ctl) (hli : t.li = s.li) (p : Payload) :
    (t.offerTally p).li = (s.offerTally p).li := by
  have hcount : (t.countLine (·.addDropped 1)).li = (s.countLine (·.addDropped 1)).li := by
    simp only [State.countLine, State.setLi_li, hli]
  unfold State.offerTally
  rw [hctl, hli]
  split
  · exact hcount
  · split
    · simp only [State.setQueue, State.setLi_li, hli]
    · exact hcount

/-- What it leaves of the port depends on them and the port. -/
theorem State.offerTally_port_congr {s t : State} (hctl : t.ctl = s.ctl) (hli : t.li = s.li) (hport : t.port = s.port)
    (p : Payload) : (t.offerTally p).port = (s.offerTally p).port := by
  unfold State.offerTally
  rw [hctl, hli]
  split
  · exact hport
  · split
    · exact hport
    · exact congrArg (BenchPort.setFlag · .noticeLost) hport

/-! ## The end of a departure -/

theorem namedBays_eq (as : List Allocation) : namedBays as = touchedBays as := rfl

theorem namedBays_nodup (as : List Allocation) : (namedBays as).Nodup := filter_allBays_nodup _

theorem mem_namedBays {as : List Allocation} {b : BayNo} : b ∈ namedBays as ↔ ∃ a ∈ as, a.bay = b := by
  rw [namedBays, mem_filter_allBays, List.any_eq_true]
  simp only [beq_iff_eq]

theorem State.endDeparture_eq (s : State) (l : LaneEntry) : s.endDeparture l =
    (((s.setLane { s.lane with queue := s.laneWithout l.tote }).reevaluate (namedBays l.allocations)).changeCheck
      ).closingChecked := State.closingCheck_eq _

/-- The end of a departure with MERGE driven high (R120, R124). -/
theorem State.pulseMerge_endDeparture {s w : State} (hlane : w.lane = s.lane) (e : LaneEntry) :
    w.pulseMerge.endDeparture e =
      (((w.setLane { s.lane with queue := s.laneWithout e.tote, merge := true }).reevaluate
        (namedBays e.allocations)).changeCheck).closingChecked := by
  have hmerged : w.pulseMerge.setLane { w.pulseMerge.lane with queue := w.pulseMerge.laneWithout e.tote } =
      w.setLane { s.lane with queue := s.laneWithout e.tote, merge := true } := by
    show w.setLane { w.lane with queue := w.laneWithout e.tote, merge := true } = _
    rw [State.laneWithout, hlane]
    rfl
  rw [State.endDeparture_eq, hmerged]

/-- What the end of a departure leaves of the part (R124): `u` stands between `s`, before the departure, and the end. -/
structure State.departsTo (s u t : State) (g : BayNo → Build → Build) (bs : List BayNo) : Prop where
  tries : u.triesMade t bs
  stock : ∀ b, (t.bay b).map Build.stock = ((s.bay b).map (g b)).map Build.stock
  follow : ∀ b ∈ bs, t.waitsFollow b
  totes : t.totes = u.totes
  marked : u.li.marked t.li
  port : u.port.raisedTo t.port [.deviation, .modeChanged]
  dev : u.dev.withTrials s.clock t.dev
  lane : t.lane = u.lane
  ctl : t.ctl = { s.ctl with mode := s.modeAfter u.lane.queue }
  frame : s.changedOnly t [.ctl, .bays, .li, .totes, .lane, .dev, .port, .draws]

theorem State.departed {s u : State} {g : BayNo → Build → Build} {bs : List BayNo} (hbs : bs.Nodup)
    (hframe : s.changedOnly u [.bays, .li, .totes, .lane, .dev, .port]) (hbays : ∀ b, u.bay b = (s.bay b).map (g b)) :
    s.departsTo u ((u.reevaluate bs).changeCheck).closingChecked g bs := by
  have hends := u.ended hbs
  have hctl : u.ctl = s.ctl := hframe .ctl (by simp)
  have hclock : u.clock = s.clock := hframe .clock (by simp)
  have hmode (q : List LaneEntry) : u.modeAfter q = s.modeAfter q := by
    simp only [State.modeAfter, hctl, hbays, Option.map_eq_none_iff]
  refine ⟨hends.tries, fun b => ?_, fun b hb => hends.follow b (.inl hb), hends.frame .totes (by simp), hends.marked,
    hends.port, ?_, hends.frame .lane (by simp), ?_, ?_⟩
  · rw [hends.stock b, hbays]
  · exact hclock ▸ hends.dev
  · rw [hends.ctl, hctl, hmode]
  · exact State.changedOnly_trans (State.changedOnly_mono hframe (by simp)) (State.changedOnly_mono hends.frame (by simp))

/-! ## Return Tote -/

section
variable {s : State} {e : LaneEntry} {x : ToteEntry}

/-- A departure whose units go back and whose count is restored, as far as its TALLY (R107, R125). -/
theorem State.restored_eq (hx : s.toteEntry e.tote = some x) :
    (s.unpinAll e.allocations).settle e (fun y => y.restored e.drawn s.clock) =
      ((s.mapBays (Build.unpinned e.allocations)).setTotes { s.totes with
        table := s.totes.table.map fun y =>
          if y.tote = e.tote then settledEntry e (fun y => y.restored e.drawn s.clock) y else y }).offerTally
        (settledEntry e (fun y => y.restored e.drawn s.clock) x).tally := by
  rw [State.unpinAll_eq]
  exact State.settle_of_entry (s := s.mapBays (Build.unpinned e.allocations)) hx _

theorem State.returnedRemaining_eq (hx : s.toteEntry e.tote = some x) :
    s.returnedRemaining e = (settledEntry e (fun y => y.restored e.drawn s.clock) x).remaining := by
  rw [State.returnedRemaining, hx]

end

/-- An accepted Return Tote at the bench port (R132). -/
theorem exec_returnTote {tx : List Byte} {s : State} {e : LaneEntry} (hs : s.listens) (hm : s.ctl.mode ≠ .loading)
    (hb : carries tx []) (he : s.headAtBench = some e) : exec (.returnTote tx) s = .next
      ((s.returnTote e).replied tx.length (okReply (s.returnOutput e))) := by
  refine congrArg Host.Outcome.next ((State.request_taken (n := 0) hs hb rfl hm).trans ?_)
  have howner : returnToteOwner [] (s.beginRequest tx.length)
      = ((s.beginRequest tx.length).returnTote e, okReply (s.returnOutput e)) := by
    rw [returnToteOwner, State.beginRequest_headAtBench, he]
    rfl
  rw [howner]
  exact State.answered (f := fun t => t.returnTote e) (fun t q => t.returnTote_withReply q e) hs.2 _ _

/-- What stands when the units have gone back and the count is restored (R9, R107, R125): this table, and the TALLY
offered. -/
def State.givenBack (s : State) (as : List Allocation) (table : List ToteEntry) (p : Payload) : State :=
  ((s.mapBays (Build.unpinned as)).setTotes { s.totes with table := table }).offerTally p

section
variable (s : State) (as : List Allocation) (table : List ToteEntry) (p : Payload)

theorem State.givenBack_tally : (s.givenBack as table p).li = (s.offerTally p).li
    ∧ (s.givenBack as table p).port = (s.offerTally p).port := by
  let t := (s.mapBays (Build.unpinned as)).setTotes { s.totes with table := table }
  exact ⟨State.offerTally_li_congr (s := s) (t := t) rfl rfl p,
    State.offerTally_port_congr (s := s) (t := t) rfl rfl rfl p⟩

theorem State.givenBack_frame : s.changedOnly (s.givenBack as table p) [.bays, .li, .totes, .port] :=
  State.changedOnly_trans
    (State.changedOnly_trans (State.changedOnly_mono (s.mapBays_changedOnly _) (by simp))
      (State.changedOnly_mono (State.setTotes_changedOnly _ _) (by simp)))
    (State.changedOnly_mono (State.offerTally_changedOnly _ p) (by simp))

theorem State.givenBack_bay (b : BayNo) : (s.givenBack as table p).bay b = (s.bay b).map (Build.unpinned as b) := by
  have hbays : (s.givenBack as table p).bays = (s.mapBays (Build.unpinned as)).bays :=
    State.offerTally_changedOnly _ p .bays (by simp)
  rw [State.bay, hbays]
  exact s.mapBays_bay _ b

theorem State.givenBack_totes : (s.givenBack as table p).totes = { s.totes with table := table } :=
  State.offerTally_changedOnly _ p .totes (by simp)

theorem State.givenBack_raises : s.port.raisedTo (s.givenBack as table p).port [.noticeLost] := by
  rw [(s.givenBack_tally as table p).2]
  exact (s.offerTally_loggedTo p).port

end

/-- The table with the departing entry's count restored (R107). -/
def restoredTable (table : List ToteEntry) (e : LaneEntry) (now : Nat) : List ToteEntry :=
  table.map fun y => if y.tote = e.tote then settledEntry e (fun y => y.restored e.drawn now) y else y

/-- An accepted Return Tote: the units back, MERGE high, and the end of the departure (R132). -/
theorem State.returnTote_eq {s : State} {e : LaneEntry} {x : ToteEntry} (hx : s.toteEntry e.tote = some x) :
    s.returnTote e =
      (((((s.givenBack e.allocations (restoredTable s.totes.table e s.clock)
        (settledEntry e (fun y => y.restored e.drawn s.clock) x).tally).setLane
          { s.lane with queue := s.laneWithout e.tote, merge := true }).reevaluate (namedBays e.allocations)).changeCheck
        ).closingChecked) := by
  have hw : (s.unpinAll e.allocations).settle e (fun y => y.restored e.drawn s.clock) =
      s.givenBack e.allocations (restoredTable s.totes.table e s.clock)
        (settledEntry e (fun y => y.restored e.drawn s.clock) x).tally := State.restored_eq hx
  have hlane : (s.givenBack e.allocations (restoredTable s.totes.table e s.clock)
      (settledEntry e (fun y => y.restored e.drawn s.clock) x).tally).lane = s.lane :=
    s.givenBack_frame _ _ _ .lane (by simp)
  rw [State.returnTote, hw, State.pulseMerge_endDeparture hlane]

/-- Settles O26: the units given back, the end of the departure, and the answer beside it. -/
theorem returnToteRestoresAndEndsTheDeparture : Obligations.ReturnToteRestoresAndEndsTheDeparture := by
  intro tx e x s hs hm hb he hx settled u reply
  have hends : s.departsTo u ((u.reevaluate (namedBays e.allocations)).changeCheck).closingChecked
      (Build.unpinned e.allocations) (namedBays e.allocations) := by
    refine State.departed (namedBays_nodup _) ?_ (s.givenBack_bay _ _ _)
    exact State.changedOnly_trans (State.changedOnly_mono (s.givenBack_frame _ _ _) (by simp))
      (State.changedOnly_mono (State.setLane_changedOnly _ _) (by simp))
  have hexec : exec (.returnTote tx) s = .next
      (((u.reevaluate (namedBays e.allocations)).changeCheck).closingChecked.replied tx.length reply) := by
    rw [exec_returnTote hs hm hb he, State.returnTote_eq hx, State.returnOutput, State.returnedRemaining_eq hx]
    rfl
  have htally := s.givenBack_tally e.allocations (restoredTable s.totes.table e s.clock) (settled x).tally
  have hli : u.li = (s.offerTally (settled x).tally).li := htally.1
  have hport : u.port = (s.offerTally (settled x).tally).port := htally.2
  have hraises : s.port.raisedTo u.port [.noticeLost] := s.givenBack_raises _ _ _
  have htotes : u.totes = { s.totes with table := s.totes.table.map fun y => if y.tote = e.tote then settled y else y } :=
    s.givenBack_totes _ _ _
  have hdev : u.dev = s.dev := s.givenBack_frame e.allocations _ _ .dev (by simp)
  have hlane : u.lane = { s.lane with queue := s.laneWithout e.tote, merge := true } := rfl
  generalize ((u.reevaluate (namedBays e.allocations)).changeCheck).closingChecked = v at hends hexec ⊢
  refine ⟨v.replied tx.length reply, hexec, rfl, hends.tries.replied _ _, hends.stock,
    fun a ha => (hends.follow a.bay (mem_namedBays.mpr ⟨a, ha, rfl⟩)).replied _ _, hends.totes.trans htotes,
    hli ▸ LineInterface.marked_withMarker hends.marked, ?_, ?_, hdev ▸ hends.dev, hends.lane.trans hlane,
    hends.ctl.trans (by rw [hlane]), State.replied_holds _ _ _, ?_⟩
  · exact (BenchPort.raisedTo_trans (BenchPort.raisedTo_mono hraises (by simp))
      (BenchPort.raisedTo_mono hends.port (by simp))).onlyRaises.replied _ _
  · rw [← hport]
    exact hends.port.isSet_eq (by simp)
  · exact State.changedOnly_trans hends.frame (State.changedOnly_mono (State.replied_changedOnly _ _ _) (by simp))

end Sys2Proof.Machine

/-! PROOF. The divert confirm expiry (R126). -/

namespace Sys2Proof.Machine

/-- The expiry of a tote's entry is due (R126). -/
def State.confirmIsDue (s : State) (tote : ToteId) (e : LaneEntry) : Prop :=
  e.tote = tote ∧ e.state = .inbound ∧ min (e.divertTime + s.loader.active.confirmLimit * 10) 4294967295 ≤ s.clock

theorem State.confirmIsDue_iff {s : State} {tote : ToteId} {e : LaneEntry} :
    (e.tote == tote && e.isInbound && decide (s.confirmDue e ≤ s.clock)) = true ↔ s.confirmIsDue tote e := by
  rw [Bool.and_eq_true, Bool.and_eq_true, beq_iff_eq, LaneEntry.isInbound_iff, decide_eq_true_eq, and_assoc]
  rfl

theorem State.missedEntry_eq_none {s : State} {tote : ToteId} (h : ∀ e ∈ s.lane.queue, ¬ s.confirmIsDue tote e) :
    s.missedEntry tote = none := by
  rw [State.missedEntry, List.find?_eq_none]
  exact fun e he => mt State.confirmIsDue_iff.mp (h e he)

theorem State.missedEntry_eq_some {s : State} {tote : ToteId} {e : LaneEntry}
    (hnodup : (s.lane.queue.map (·.tote)).Nodup) (he : e ∈ s.lane.queue) (hdue : s.confirmIsDue tote e) :
    s.missedEntry tote = some e := by
  cases hfound : s.missedEntry tote with
  | none => exact absurd (State.confirmIsDue_iff.mpr hdue) (List.find?_eq_none.mp hfound e he)
  | some y =>
    have hy : s.confirmIsDue tote y := by
      refine State.confirmIsDue_iff.mp ?_
      exact List.find?_some (p := fun e : LaneEntry => e.tote == tote && e.isInbound && decide (s.confirmDue e ≤ s.clock))
        hfound
    have hsame : y = e :=
      List.inj_on_of_nodup_map hnodup (List.mem_of_find?_eq_some hfound) he (hy.1.trans hdue.1.symm)
    rw [hsame]

theorem exec_divertConfirmExpiry {s : State} (hup : s.resetLow = false) (tote : ToteId) :
    exec (.divertConfirmExpiry tote) s = .next (s.takeConfirmExpiry tote) :=
  congrArg Host.Outcome.next (State.whileUp_of_up _ hup)

/-- A missed divert: the units back, its record and its flag, and the end of the departure (R126). -/
theorem State.missDivert_eq {s : State} {e : LaneEntry} {x : ToteEntry} (hx : s.toteEntry e.tote = some x) :
    s.missDivert e =
      ((((((s.givenBack e.allocations (restoredTable s.totes.table e s.clock)
        (settledEntry e (fun y => y.restored e.drawn s.clock) x).tally).record
          (.divertMissed e.tote e.item e.drawn)).setFlag .divertMissed).setLane
          { s.lane with queue := s.laneWithout e.tote }).reevaluate (namedBays e.allocations)).changeCheck
        ).closingChecked := by
  have hw : (s.unpinAll e.allocations).settle e (fun y => y.restored e.drawn s.clock) =
      s.givenBack e.allocations (restoredTable s.totes.table e s.clock)
        (settledEntry e (fun y => y.restored e.drawn s.clock) x).tally := State.restored_eq hx
  have hlane : (s.givenBack e.allocations (restoredTable s.totes.table e s.clock)
      (settledEntry e (fun y => y.restored e.drawn s.clock) x).tally).lane = s.lane :=
    s.givenBack_frame _ _ _ .lane (by simp)
  rw [State.missDivert, State.endDeparture_eq, hw]
  generalize s.givenBack e.allocations _ _ = w at hlane
  have hleft : ((w.record (.divertMissed e.tote e.item e.drawn)).setFlag .divertMissed).setLane
      { w.lane with queue := w.laneWithout e.tote } =
      ((w.record (.divertMissed e.tote e.item e.drawn)).setFlag .divertMissed).setLane
        { s.lane with queue := s.laneWithout e.tote } := by
    rw [State.laneWithout, hlane]
    rfl
  exact congrArg (fun v => ((State.reevaluate v (namedBays e.allocations)).changeCheck).closingChecked) hleft

/-- Settles O36: no entry due and nothing happens; else the units given back, the record and the end of the departure. -/
theorem missedDivertIsRestoredAndRecorded : Obligations.MissedDivertIsRestoredAndRecorded := by
  intro tote s hup due
  refine ⟨fun hnone => ?_, fun e x hnodup he hdue hx => ?_⟩
  · rw [exec_divertConfirmExpiry hup, State.takeConfirmExpiry, State.missedEntry_eq_none hnone]
  obtain rfl : e.tote = tote := hdue.1
  intro settled u
  let w := s.givenBack e.allocations (restoredTable s.totes.table e s.clock) (settled x).tally
  have hkept : s.changedOnly w [.bays, .li, .totes, .port] := s.givenBack_frame _ _ _
  have htally : w.li = (s.offerTally (settled x).tally).li ∧ w.port = (s.offerTally (settled x).tally).port :=
    s.givenBack_tally _ _ _
  have hwbays (b : BayNo) : w.bay b = (s.bay b).map (Build.unpinned e.allocations b) := s.givenBack_bay _ _ _ b
  have hwtotes : w.totes = { s.totes with table := restoredTable s.totes.table e s.clock } := s.givenBack_totes _ _ _
  have hu : u = ((w.record (.divertMissed e.tote e.item e.drawn)).setFlag .divertMissed).setLane
      { s.lane with queue := s.laneWithout e.tote } := rfl
  have hexec : exec (.divertConfirmExpiry e.tote) s = .next
      ((u.reevaluate (namedBays e.allocations)).changeCheck).closingChecked := by
    rw [exec_divertConfirmExpiry hup, State.takeConfirmExpiry, State.missedEntry_eq_some hnodup he hdue]
    exact congrArg Host.Outcome.next (State.missDivert_eq hx)
  clear_value u w
  have hends : s.departsTo u ((u.reevaluate (namedBays e.allocations)).changeCheck).closingChecked
      (Build.unpinned e.allocations) (namedBays e.allocations) := by
    refine State.departed (namedBays_nodup _) ?_ (fun b => by rw [hu]; exact hwbays b)
    rw [hu]
    exact State.changedOnly_trans
      (State.changedOnly_trans (State.changedOnly_mono hkept (by simp))
        (State.changedOnly_trans (State.changedOnly_mono (State.record_changedOnly _ _) (by simp))
          (State.changedOnly_mono (State.setFlag_changedOnly _ _) (by simp))))
      (State.changedOnly_mono (State.setLane_changedOnly _ _) (by simp))
  have hli : u.li = (s.offerTally (settled x).tally).li := by
    rw [hu]
    exact htally.1
  have hport : u.port = ((s.offerTally (settled x).tally).port.setFlag .deviation).setFlag .divertMissed := by
    rw [hu]
    exact congrArg (fun q => (BenchPort.setFlag q .deviation).setFlag .divertMissed) htally.2
  have hraises : s.port.raisedTo u.port [.noticeLost, .deviation, .divertMissed] := by
    rw [hport]
    exact BenchPort.raisedTo_trans (BenchPort.raisedTo_mono (s.offerTally_loggedTo _).port (by simp))
      (BenchPort.raisedTo_trans (BenchPort.raisedTo_mono (BenchPort.setFlag_raisedTo _ _) (by simp))
        (BenchPort.raisedTo_mono (BenchPort.setFlag_raisedTo _ _) (by simp)))
  have htotes : u.totes = { s.totes with table := restoredTable s.totes.table e s.clock } := by
    rw [hu]
    exact hwtotes
  have hdev : u.dev = s.dev.add s.clock (.divertMissed e.tote e.item e.drawn) := by
    have hclock : w.clock = s.clock := hkept .clock (by simp)
    have hsame : w.dev = s.dev := hkept .dev (by simp)
    rw [hu, ← hclock, ← hsame]
    rfl
  have hlane : u.lane = { s.lane with queue := s.laneWithout e.tote } := by
    rw [hu]
    rfl
  generalize ((u.reevaluate (namedBays e.allocations)).changeCheck).closingChecked = v at hends hexec ⊢
  have hall : s.port.raisedTo v.port [.deviation, .divertMissed, .noticeLost, .modeChanged] :=
    BenchPort.raisedTo_trans (BenchPort.raisedTo_mono hraises (by simp)) (BenchPort.raisedTo_mono hends.port (by simp))
  refine ⟨v, hexec, rfl, hends.tries, hall.keepsReply, hends.stock,
    fun a ha => hends.follow a.bay (mem_namedBays.mpr ⟨a, ha, rfl⟩), hends.totes.trans htotes,
    hli ▸ LineInterface.marked_withMarker hends.marked, hdev ▸ hends.dev, ?_, ?_, ?_, hall.onlyRaises,
    hends.lane.trans hlane, hends.ctl.trans (by rw [hlane]), hends.frame⟩
  · exact hends.port.isSet (by rw [hport]; simp [BenchPort.isSet_setFlag])
  · exact hends.port.isSet (by rw [hport]; simp [BenchPort.isSet_setFlag])
  · rw [hends.port.isSet_eq (by simp), hport]
    simp [BenchPort.isSet_setFlag]

end Sys2Proof.Machine

/-! PROOF. A good tag read (R96, R102) and the divert it may make (R109, R115, R116, R119). -/

namespace Sys2Proof.Machine

/-! ## The characters of a good frame -/

theorem State.setDecoder_self {s : State} {d : ReaderDecoder} (h : s.totes.decoder = d) : s.setDecoder d = s := by
  rw [← h]
  rfl

/-- Characters that do not complete the frame join it (R95). -/
theorem State.readerActivity_characters (laneFull : Bool) : ∀ (more frame : List ReaderChar) (s : State),
    s.totes.decoder = .assembling frame → frame.length + more.length < 8 →
      s.readerActivity (more.map .character) laneFull = s.setDecoder (.assembling (frame ++ more))
  | [], frame, s, hd, _ => by
    rw [List.append_nil, State.setDecoder_self hd]
    rfl
  | c :: more, frame, s, hd, hl => by
    have hshort : frame.length < 7 := by
      rw [List.length_cons] at hl
      omega
    have hnext : s.readerCharacter laneFull c = s.setDecoder (.assembling (frame ++ [c])) :=
      State.readerCharacter_assembling c laneFull hd hshort
    have htail := State.readerActivity_characters laneFull more (frame ++ [c])
      (s.setDecoder (.assembling (frame ++ [c]))) rfl (by
        rw [List.length_cons] at hl
        rw [List.length_append, List.length_singleton]
        omega)
    rw [List.append_assoc, List.singleton_append] at htail
    rw [List.map_cons, State.readerActivity, List.foldl_cons]
    change State.readerActivity (s.readerCharacter laneFull c) _ laneFull = _
    rw [hnext, htail]
    rfl

theorem Tag.length_bytes (tag : Tag) : tag.bytes.length = 8 := rfl

/-- A frame that carries a tag is that tag (R96). -/
theorem tagOfFrame_of_bytes {frame : List ReaderChar} {tag : Tag} (hdata : frame.map (·.data) = tag.bytes)
    (hstop : ∀ c ∈ frame, c.stop = true) (htote : tag.tote ≠ 0) (hitem : tag.item ≠ 0) :
    tagOfFrame frame = some tag := by
  rw [tagOfFrame, if_pos (List.all_eq_true.mpr hstop), hdata, parseTag_bytes htote hitem]

/-- The eighth character of a good frame, the tote not in the lane (R95 to R97). -/
theorem exec_goodTagRead {assembled more : List ReaderChar} {last : ReaderChar} {tag : Tag} {s : State}
    (laneFull : Bool) (hup : s.resetLow = false) (hd : s.totes.decoder = .assembling assembled)
    (hdata : (assembled ++ more ++ [last]).map (·.data) = tag.bytes)
    (hstop : ∀ c ∈ assembled ++ more ++ [last], c.stop = true) (htote : tag.tote ≠ 0) (hitem : tag.item ≠ 0)
    (hlane : ∀ e ∈ s.lane.queue, e.tote ≠ tag.tote) :
    exec (.tagRead (more.map .character) last laneFull) s
      = .next ((s.setDecoder (.taken false)).goodRead laneFull tag) := by
  have hlength : assembled.length + more.length = 7 := by
    have h := congrArg List.length hdata
    rw [Tag.length_bytes] at h
    simp only [List.length_map, List.length_append, List.length_singleton] at h
    omega
  have hout : ¬ (s.setDecoder (.taken false)).inLane tag.tote = true := by
    rw [State.inLane_iff]
    exact fun ⟨e, he, heq⟩ => hlane e he heq
  rw [exec_tagRead hup, State.readerActivity_characters laneFull more assembled s hd (by omega),
    State.readerCharacter_eighth (s := s.setDecoder (.assembling (assembled ++ more))) last laneFull rfl
      (by rw [List.length_append]; omega)]
  refine congrArg Host.Outcome.next ?_
  rw [State.readerFrame, tagOfFrame_of_bytes hdata hstop htote hitem]
  exact if_neg hout

/-! ## The divert -/

theorem State.mayDivert_iff {s : State} {laneFull : Bool} {e : ToteEntry} : s.mayDivert laneFull e = true ↔
    (s.ctl.mode = .active ∨ s.ctl.mode = .closing) ∧ s.lane.queue.length < s.loader.active.laneCapacity
      ∧ laneFull = false ∧ 0 < e.remaining := by
  simp only [State.mayDivert, Bool.and_eq_true, Bool.or_eq_true, beq_iff_eq, decide_eq_true_eq, Bool.not_eq_true',
    and_assoc]

theorem State.shareDecision_passes {s : State} {laneFull : Bool} {e : ToteEntry}
    (h : ¬ s.mayDivert laneFull e = true ∨ grantedSum (s.share e) = 0
      ∨ s.offerDraw (e.drawPayload (grantedSum (s.share e))) = none) : s.shareDecision laneFull e = s := by
  unfold State.shareDecision
  obtain hno | hnone | hrefused := h
  · exact if_pos (.inl (by simpa using hno))
  · exact if_pos (.inr hnone)
  · rw [hrefused]
    exact ite_self _

theorem State.shareDecision_diverts {s u : State} {laneFull : Bool} {e : ToteEntry} (hmay : s.mayDivert laneFull e = true)
    (hsum : grantedSum (s.share e) ≠ 0) (hu : s.offerDraw (e.drawPayload (grantedSum (s.share e))) = some u) :
    s.shareDecision laneFull e = u.divert e (s.share e) := by
  have hgo : ¬ (s.mayDivert laneFull e = false ∨ grantedSum (s.share e) = 0) := by
    simp [hmay, hsum]
  rw [State.shareDecision, if_neg hgo, hu]

/-- A divert, its bays, lane and DRAW in place (R116). -/
theorem State.divert_eq (u : State) (e : ToteEntry) (as : List Allocation) : u.divert e as =
    ((((u.joinLane (u.newLaneEntry e as)).mapBays (Build.pinnedWith as)).reevaluate (namedBays as)).putEntry
      { e with remaining := e.remaining - grantedSum as, touched := u.clock }).changeCheck := by
  have hclock : (((u.joinLane (u.newLaneEntry e as)).mapBays (Build.pinnedWith as)).reevaluate (namedBays as)).clock
      = u.clock := State.reevaluate_changedOnly _ _ .clock (by simp)
  rw [State.divert, State.pinAll_eq, State.subtractDraw, ← namedBays_eq, hclock]

/-- What a set entry leaves of the totes depends on them and the lane alone (R100). -/
theorem State.putEntry_totes_congr {s t : State} (htotes : t.totes = s.totes) (hlane : t.lane.queue = s.lane.queue)
    (e : ToteEntry) : (t.putEntry e).totes = (s.putEntry e).totes := by
  have hin : t.inLane = s.inLane := by
    funext tote
    rw [State.inLane, State.inLane, hlane]
  show { t.totes with table := putTote t.inLane t.totes.table e } = { s.totes with table := putTote s.inLane s.totes.table e }
  rw [htotes, hin]

/-- What the rest of a divert leaves of the part, the entry in the lane and the grants pinned being `v` (R116). -/
structure State.divertsTo (v t : State) (sub : ToteEntry) (bs : List BayNo) : Prop where
  tries : v.triesMade t bs
  stock : v.sameStock t
  follow : ∀ b ∈ bs, t.waitsFollow b
  totes : t.totes = (v.putEntry sub).totes
  marked : v.li.marked t.li
  port : v.port.raisedTo t.port [.deviation]
  dev : v.dev.withTrials v.clock t.dev
  lane : t.lane = v.lane
  frame : v.changedOnly t [.bays, .li, .totes, .dev, .port, .draws]

theorem State.diverted (v : State) (sub : ToteEntry) {bs : List BayNo} (hbs : bs.Nodup) :
    v.divertsTo (((v.reevaluate bs).putEntry sub).changeCheck) sub bs := by
  obtain ⟨⟨rstock, -, rdev, -, rframe⟩, rmarked, rfollow⟩ := v.reevaluate_spec bs
  obtain ⟨cstock, cfollow, cmarked, -, -, cframe⟩ := ((v.reevaluate bs).putEntry sub).tried_changeCheck
  have hcheck := ((v.reevaluate bs).putEntry sub).changeCheck_changedOnly
  have hframe : v.changedOnly ((v.reevaluate bs).putEntry sub).changeCheck [.bays, .li, .totes, .dev, .port, .draws] :=
    State.changedOnly_trans
      (State.changedOnly_trans (State.changedOnly_mono rframe (by simp))
        (State.changedOnly_mono (State.putEntry_changedOnly _ _) (by simp)))
      (State.changedOnly_mono hcheck (by simp))
  have hset : v.sameStock ((v.reevaluate bs).putEntry sub) := rstock
  refine ⟨(v.reevaluate_triesMade hbs).of_bays (hcheck .bays (by simp)), State.sameStock_trans hset cstock,
    fun b hb => cfollow b (rfollow b (.inl hb)), ?_, LineInterface.marked_trans rmarked cmarked, ?_, ?_,
    hframe .lane (by simp), hframe⟩
  · have htotes : ((v.reevaluate bs).putEntry sub).changeCheck.totes = ((v.reevaluate bs).putEntry sub).totes :=
      hcheck .totes (by simp)
    have hlane : (v.reevaluate bs).lane = v.lane := rframe .lane (by simp)
    rw [htotes]
    exact State.putEntry_totes_congr (rframe .totes (by simp)) (by rw [hlane]) sub
  · have hport : ((v.reevaluate bs).putEntry sub).changeCheck.port = (v.reevaluate bs).port := hcheck .port (by simp)
    rw [hport]
    exact (v.reevaluate_loggedTo bs).port
  · have hdev : ((v.reevaluate bs).putEntry sub).changeCheck.dev = (v.reevaluate bs).dev := hcheck .dev (by simp)
    rw [hdev]
    exact rdev

/-- Settles O32: the frame's characters, then the share decision, which passes the tote or diverts it. -/
theorem goodTagReadUpdatesTheToteAndMayDivert : Obligations.GoodTagReadUpdatesTheToteAndMayDivert := by
  intro assembled more last laneFull tag s hup hd hdata hstop htote hitem hlane fresh e read command possible grants draw
    notice
  have hread : exec command s = .next (read.shareDecision laneFull e) :=
    exec_goodTagRead laneFull hup hd hdata hstop htote hitem hlane
  have hframe : s.changedOnly read [.totes] :=
    State.changedOnly_trans (s.setTotes_changedOnly _) (State.putEntry_changedOnly _ _)
  have hmay : read.mayDivert laneFull e = true ↔ possible := State.mayDivert_iff
  clear_value read e
  refine ⟨fun hpass => ?_, fun u hpossible hdraw hu => ?_⟩
  · rw [hread, State.shareDecision_passes (hpass.imp (mt hmay.mp) id)]
  intro queue v subtracted
  have hqueued : read.changedOnly u [.li] := by
    obtain ⟨-, q, -, rfl⟩ := State.offerDraw_some hu
    exact read.setQueue_changedOnly q
  have hu' : s.changedOnly u [.li, .totes] :=
    State.changedOnly_trans (State.changedOnly_mono hframe (by simp)) (State.changedOnly_mono hqueued (by simp))
  have hv : v = (u.joinLane (u.newLaneEntry e grants)).mapBays (Build.pinnedWith grants) := by
    have hbays : u.bays = s.bays := hu' .bays (by simp)
    have hlane' : u.lane = s.lane := hu' .lane (by simp)
    have hclock : u.clock = s.clock := hu' .clock (by simp)
    have hbay (b : BayNo) : (u.joinLane (u.newLaneEntry e grants)).bay b = s.bay b := by
      show u.bays[b] = s.bays[b]
      rw [hbays]
    simp only [State.mapBays, hbay]
    rw [State.joinLane, State.newLaneEntry, hlane', hclock]
    rfl
  have hexec : exec command s = .next (((v.reevaluate (namedBays grants)).putEntry subtracted).changeCheck) := by
    have hclock : u.clock = s.clock := hu' .clock (by simp)
    rw [hread, State.shareDecision_diverts (hmay.mpr hpossible) hdraw hu, State.divert_eq, ← hv, hclock]
    rfl
  have hends := v.diverted subtracted (namedBays_nodup grants)
  have hvframe : s.changedOnly v [.bays, .li, .totes, .lane] := by
    refine State.changedOnly_trans (State.changedOnly_mono hu' (by simp)) ?_
    exact State.changedOnly_trans (State.changedOnly_mono (State.setLane_changedOnly _ _) (by simp))
      (State.changedOnly_mono (State.setBays_changedOnly _ _) (by simp))
  have hvbay (b : BayNo) : v.bay b = (s.bay b).map (Build.pinnedWith grants b) := State.bay_setBays_ofFn _ _ b
  have hvtotes : v.totes = read.totes := hqueued .totes (by simp)
  have hvlane : v.lane = { s.lane with queue := queue, divert := true } := rfl
  have hvli : v.li = u.li := rfl
  clear_value v
  generalize ((v.reevaluate (namedBays grants)).putEntry subtracted).changeCheck = t at hexec hends ⊢
  have hport : s.port.raisedTo t.port [.deviation] := by
    rw [← show v.port = s.port from hvframe .port (by simp)]
    exact hends.port
  have hdev : s.dev.withTrials s.clock t.dev := by
    rw [← show v.dev = s.dev from hvframe .dev (by simp), ← show v.clock = s.clock from hvframe .clock (by simp)]
    exact hends.dev
  refine ⟨t, hexec, rfl, hends.tries, hport.keepsReply, hends.lane.trans hvlane, fun b => ?_,
    fun a ha => hends.follow a.bay (mem_namedBays.mpr ⟨a, ha, rfl⟩), ?_,
    hvli ▸ LineInterface.marked_withMarker hends.marked, hdev, hport.onlyRaises, ?_⟩
  · rw [hends.stock b, hvbay]
  · have hqueue : v.lane.queue = queue := by rw [hvlane]
    rw [hends.totes]
    exact State.putEntry_totes_congr (s := read.setLaneQueue queue) hvtotes hqueue subtracted
  · exact State.changedOnly_trans (State.changedOnly_mono hvframe (by simp)) (State.changedOnly_mono hends.frame (by simp))

end Sys2Proof.Machine

/-! PROOF. The placement of a pick (R10, R27 to R30, R129): all its allocations as one change of every bay. -/

namespace Sys2Proof.Machine

/-! ## Every line -/

theorem countOn_cons (b : BayNo) (i : Nat) (x : Allocation × Nat) (xs : List (Allocation × Nat)) :
    countOn b i (x :: xs) = (if b = x.1.bay ∧ i = x.1.line then x.2 else 0) + countOn b i xs := by
  have hnames : (x.1.bay == b && x.1.line == i) = true ↔ b = x.1.bay ∧ i = x.1.line := by
    rw [Bool.and_eq_true, beq_iff_eq, beq_iff_eq, eq_comm, eq_comm (a := x.1.line)]
  unfold countOn
  by_cases h : b = x.1.bay ∧ i = x.1.line
  · rw [List.filter_cons_of_pos (p := fun x : Allocation × Nat => x.1.bay == b && x.1.line == i) (hnames.mpr h), if_pos h,
      List.map_cons, List.sum_cons]
  · rw [List.filter_cons_of_neg (p := fun x : Allocation × Nat => x.1.bay == b && x.1.line == i) (mt hnames.mp h),
      if_neg h, Nat.zero_add]

theorem countOn_pos {b : BayNo} {i : Nat} : ∀ {xs : List (Allocation × Nat)}, 0 < countOn b i xs ↔
    ∃ x ∈ xs, x.1.bay = b ∧ x.1.line = i ∧ 0 < x.2
  | [] => by simp [countOn]
  | x :: xs => by
    rw [countOn_cons, Nat.add_pos_iff_pos_or_pos, countOn_pos (xs := xs)]
    simp only [List.mem_cons, exists_eq_or_imp]
    refine or_congr_left ?_
    by_cases h : b = x.1.bay ∧ i = x.1.line
    · rw [if_pos h, h.1, h.2]
      simp
    · rw [if_neg h]
      refine iff_of_false (by simp) ?_
      rintro ⟨hb, hi, -⟩
      exact h ⟨hb.symm, hi.symm⟩

theorem Line.picked_none (items : List ItemRecord) (now : Nat) (l : Line) : l.picked items now 0 0 = l := by
  simp [Line.picked]

/-- A placement after another, as one (R10). -/
theorem Line.picked_place (items : List ItemRecord) (now taken granted c g : Nat) (l : Line) :
    (Line.place items now taken granted l).picked items now c g = l.picked items now (taken + c) (granted + g) := by
  have hwait : (if c = 0 then (if 0 < taken then l.wait.zero now else l.wait)
      else { stored := 0, runStart := (if 0 < taken then l.wait.zero now else l.wait).runStart.map fun _ => now })
      = if taken + c = 0 then l.wait else { stored := 0, runStart := l.wait.runStart.map fun _ => now } := by
    by_cases ht : 0 < taken
    · rw [if_pos ht, if_neg (show ¬ taken + c = 0 by omega)]
      split
      · rfl
      · simp [Wait.zero, Function.comp_def]
    · simp [show taken = 0 by omega]
  have hmark : (decide (c = 0) && (if 0 < taken then false else l.trialMark))
      = (decide (taken + c = 0) && l.trialMark) := by
    by_cases ht : 0 < taken
    · simp [ht, show taken ≠ 0 by omega]
    · simp [show taken = 0 by omega]
  simp only [Line.picked, Line.place, hwait, hmark, Nat.add_mul, Nat.add_assoc, Nat.sub_add_eq]
  rfl

/-- The placements of a pick on one line (R10). -/
def placedLine (s : State) (xs : List (Allocation × Nat)) (b : BayNo) (i : Nat) (l : Line) : Line :=
  l.picked s.items s.clock (countOn b i xs) (grantedOn b i (xs.map (·.1)))

theorem placedLine_cons (s : State) (x : Allocation × Nat) (xs : List (Allocation × Nat)) (b : BayNo) (i : Nat) (l : Line) :
    placedLine s (x :: xs) b i l = placedLine s xs b i
      (if b = x.1.bay ∧ i = x.1.line then Line.place s.items s.clock x.2 x.1.granted l else l) := by
  unfold placedLine
  rw [countOn_cons, List.map_cons, grantedOn_cons]
  by_cases h : b = x.1.bay ∧ i = x.1.line
  · rw [if_pos h, if_pos h, if_pos h, Line.picked_place]
  · rw [if_neg h, if_neg h, if_neg h, Nat.zero_add, Nat.zero_add]

/-- The placements of a pick, as one change of every line (R10). -/
theorem State.placeAll_eq (s : State) (xs : List (Allocation × Nat)) : xs.foldl State.place s =
    s.mapBays fun b => Build.mapLines (placedLine s xs b) := by
  have hstep (t : State) (x : Allocation × Nat) (ht : s.changedOnly t [.bays]) :
      t.place x = t.modifyLine x.1.bay x.1.line (Line.place s.items s.clock x.2 x.1.granted) := by
    have hitems : t.items = s.items := ht .items (by simp)
    have hclock : t.clock = s.clock := ht .clock (by simp)
    rw [State.place, hitems, hclock]
  exact State.foldl_modifyLine hstep (fun b i l => l.picked_none s.items s.clock) (placedLine_cons s) xs s
    (s.changedOnly_refl _)

/-! ## Every bay -/

/-- What the bay steps of a placement make of a build whose placements are made (R129). -/
def Build.stepped (items : List ItemRecord) (expiry : Nat) (xs : List (Allocation × Nat)) (b : BayNo) (bd : Build) : Build :=
  { bd.openWindow expiry (chilledPlaced items b bd xs) with
    work := completedWork items (bd.openWindow expiry (chilledPlaced items b bd xs)) }

theorem State.checkCompletion_of_some {s : State} {b : BayNo} {bd : Build} (h : s.bay b = some bd) : s.checkCompletion b =
    if bd.held = false ∧ bd.work ≠ .ready ∧ completedWork s.items bd = .ready then
      (s.setBay b (some { bd with work := completedWork s.items bd })).setFlag .bayReady
    else s.setBay b (some { bd with work := completedWork s.items bd }) := by
  rw [State.checkCompletion, h]

theorem State.checkCompletion_of_none {s : State} {b : BayNo} (h : s.bay b = none) : s.checkCompletion b = s := by
  rw [State.checkCompletion, h]

theorem State.checkCompletion_bay (s : State) (b c : BayNo) : (s.checkCompletion b).bay c =
    if c = b then (s.bay b).map (fun bd => { bd with work := completedWork s.items bd }) else s.bay c := by
  cases hbd : s.bay b with
  | none =>
    rw [State.checkCompletion_of_none hbd]
    split
    · next hc => rw [hc, hbd]; rfl
    · rfl
  | some bd =>
    have hset := s.bay_setBay b c (some { bd with work := completedWork s.items bd })
    rw [State.checkCompletion_of_some hbd]
    split
    · exact hset
    · exact hset

theorem Build.openWindow_eq (bd : Build) (expiry : Nat) (placed : Bool) : bd.openWindow expiry placed =
    { bd with chillExpiry := if (bd.chillExpiry.isNone && placed) = true then some expiry else bd.chillExpiry } := by
  unfold Build.openWindow
  by_cases h : placed = true ∧ bd.chillExpiry = none
  · rw [if_pos h, if_pos (by simp [h])]
  · rw [if_neg h, if_neg (by rwa [Bool.and_eq_true, Option.isNone_iff_eq_none, and_comm])]

theorem completedWork_openWindow (items : List ItemRecord) (bd : Build) (expiry : Nat) (placed : Bool) :
    completedWork items (bd.openWindow expiry placed) = completedWork items bd := by
  rw [Build.openWindow_eq]
  rfl

theorem Build.openWindow_work (bd : Build) (expiry : Nat) (placed : Bool) : (bd.openWindow expiry placed).work = bd.work := by
  unfold Build.openWindow
  split <;> rfl

theorem Build.openWindow_held (bd : Build) (expiry : Nat) (placed : Bool) : (bd.openWindow expiry placed).held = bd.held := by
  unfold Build.openWindow
  split <;> rfl

section
variable (xs : List (Allocation × Nat))

/-- The placement's chill window rule on one bay (R30). -/
def State.windowed (s : State) (b : BayNo) : State :=
  s.modifyBuild b fun bd => bd.openWindow s.newChillExpiry (chilledPlaced s.items b bd xs)

theorem State.bayStep_eq (s : State) (b : BayNo) : s.bayStep xs b = (s.windowed xs b).checkCompletion b := rfl

theorem State.windowed_changedOnly (s : State) (b : BayNo) : s.changedOnly (s.windowed xs b) [.bays] :=
  s.modifyBuild_changedOnly b _

theorem State.windowed_bay {s t : State} (ht : s.changedOnly t [.bays, .port]) (b c : BayNo) : (t.windowed xs b).bay c =
    if c = b then (t.bay b).map fun bd => bd.openWindow s.newChillExpiry (chilledPlaced s.items b bd xs) else t.bay c := by
  have hitems : t.items = s.items := ht .items (by simp)
  rw [State.windowed, State.modifyBuild_bay, State.newChillExpiry_of_frame ht (by simp), hitems]

theorem State.windowed_of_some {s t : State} (ht : s.changedOnly t [.bays, .port]) {b : BayNo} {bd : Build}
    (hbd : t.bay b = some bd) : (t.windowed xs b).bay b =
      some (bd.openWindow s.newChillExpiry (chilledPlaced s.items b bd xs)) := by
  rw [State.windowed_bay xs ht, if_pos rfl, hbd]
  rfl

theorem State.windowed_of_none {s t : State} (ht : s.changedOnly t [.bays, .port]) {b : BayNo}
    (hbd : t.bay b = none) : (t.windowed xs b).bay b = none := by
  rw [State.windowed_bay xs ht, if_pos rfl, hbd]
  rfl

/-- The bay step of a placement (R129). -/
theorem placement_bayStepOf (s : State) : s.bayStepOf (State.bayStep xs) (Build.stepped s.items s.newChillExpiry xs)
    (fun b bd => bd.held = false ∧ bd.work ≠ .ready ∧ (bd.stepped s.items s.newChillExpiry xs b).work = .ready) where
  frame t b := t.bayStep_changedOnly xs b
  bay t b c ht := by
    have hitems : (t.windowed xs b).items = s.items :=
      (t.windowed_changedOnly xs b .items (by simp)).trans (ht .items (by simp))
    rw [State.bayStep_eq, State.checkCompletion_bay, State.windowed_bay xs ht, State.windowed_bay xs ht, if_pos rfl, hitems,
      Option.map_map]
    split <;> rfl
  raises t b bd ht hbd henters := by
    have hitems : (t.windowed xs b).items = s.items :=
      (t.windowed_changedOnly xs b .items (by simp)).trans (ht .items (by simp))
    rw [State.bayStep_eq, State.checkCompletion_of_some (State.windowed_of_some xs ht hbd), Build.openWindow_held,
      Build.openWindow_work, hitems]
    refine (congrArg State.port (if_pos henters)).trans ?_
    exact congrArg (BenchPort.setFlag · .bayReady) (t.windowed_changedOnly xs b .port (by simp))
  keeps t b ht hno := by
    have hport : (t.windowed xs b).port = t.port := t.windowed_changedOnly xs b .port (by simp)
    cases hbd : t.bay b with
    | none => rw [State.bayStep_eq, State.checkCompletion_of_none (State.windowed_of_none xs ht hbd), hport]
    | some bd =>
      have hitems : (t.windowed xs b).items = s.items :=
        (t.windowed_changedOnly xs b .items (by simp)).trans (ht .items (by simp))
      rw [State.bayStep_eq, State.checkCompletion_of_some (State.windowed_of_some xs ht hbd), Build.openWindow_held,
        Build.openWindow_work, hitems]
      exact (congrArg State.port (if_neg (hno bd hbd))).trans hport

end

/-! ## A build after the whole placement -/

section
variable (s : State) (xs : List (Allocation × Nat)) (b : BayNo) (bd : Build)

/-- The placements of a pick on one build (R10). -/
def State.placedBuild : Build :=
  bd.mapLines (placedLine s xs b)

theorem State.placedBuild_getElem? (i : Nat) : (s.placedBuild xs b bd).lines[i]? =
    (bd.lines[i]?).map (placedLine s xs b i) :=
  Build.mapLines_getElem? _ bd i

/-- Units were placed on a chilled line of the build (R30). -/
theorem State.chilledPlaced_eq : chilledPlaced s.items b (s.placedBuild xs b bd) xs =
    (bd.lines.zipIdx.any fun li => li.1.chilled s.items && decide (0 < countOn b li.2 xs)) := by
  rw [Bool.eq_iff_iff, chilledPlaced, List.any_eq_true, List.any_eq_true]
  simp only [Bool.and_eq_true, beq_iff_eq, decide_eq_true_eq, State.placedBuild_getElem?, Option.map_map]
  constructor
  · rintro ⟨x, hx, ⟨hbay, htaken⟩, hchilled⟩
    cases hl : bd.lines[x.1.line]? with
    | none => simp [hl] at hchilled
    | some l =>
      refine ⟨(l, x.1.line), List.mem_zipIdx_iff_getElem?.mpr hl, ?_, countOn_pos.mpr ⟨x, hx, hbay, rfl, htaken⟩⟩
      rw [hl] at hchilled
      exact hchilled
  · rintro ⟨⟨l, i⟩, hli, hchilled, hcount⟩
    obtain ⟨x, hx, hbay, rfl, htaken⟩ := countOn_pos.mp hcount
    refine ⟨x, hx, ⟨hbay, htaken⟩, ?_⟩
    rw [List.mem_zipIdx_iff_getElem?.mp hli]
    exact hchilled

theorem State.placedBuild_lines : (s.placedBuild xs b bd).lines = bd.lines.zipIdx.map fun li =>
    li.1.picked s.items s.clock (countOn b li.2 xs) (grantedOn b li.2 (xs.map (·.1))) := rfl

theorem touched_iff : (xs.any fun x => x.1.bay == b) = true ↔ ∃ x ∈ xs, x.1.bay = b := by
  simp only [List.any_eq_true, beq_iff_eq]

/-- A completion check after the placements (R27, R28). -/
theorem State.pickedBuild_work (h : ∃ x ∈ xs, x.1.bay = b) :
    (s.pickedBuild xs b bd).work = completedWork s.items (s.placedBuild xs b bd) := by
  have htouched : ¬ (xs.any fun x => x.1.bay == b) = false := by
    rw [Bool.not_eq_false, touched_iff]
    exact h
  have hwork : (s.placedBuild xs b bd).work = bd.work := rfl
  refine (if_neg htouched).trans ?_
  rw [completedWork, hwork, State.placedBuild_lines]
  cases bd.work with
  | gathering => 
    dsimp only
    by_cases hambient : ((bd.lines.zipIdx.map fun li => li.1.picked s.items s.clock (countOn b li.2 xs)
        (grantedOn b li.2 (xs.map (·.1)))).all fun l => l.chilled s.items || l.complete) = true
    · rw [if_pos hambient, if_neg (fun hf => by rw [hambient] at hf; cases hf)]
    · rw [if_neg hambient, if_pos (Bool.not_eq_true _ ▸ hambient)]
  | chilling => rfl
  | ready => rfl

/-- A bay that the pick names (R27, R30, R129). -/
theorem State.pickedBuild_of_touched (h : ∃ x ∈ xs, x.1.bay = b) :
    s.pickedBuild xs b bd = (s.placedBuild xs b bd).stepped s.items s.newChillExpiry xs b := by
  rw [Build.stepped, completedWork_openWindow, ← s.pickedBuild_work xs b bd h, Build.openWindow_eq, State.chilledPlaced_eq]
  rfl

theorem State.placedBuild_of_untouched (h : ¬ ∃ x ∈ xs, x.1.bay = b) : s.placedBuild xs b bd = bd := by
  have hcount (i : Nat) : countOn b i xs = 0 :=
    Nat.eq_zero_of_not_pos fun hpos => h ((countOn_pos.mp hpos).imp fun x hx => ⟨hx.1, hx.2.1⟩)
  have hgranted (i : Nat) : grantedOn b i (xs.map (·.1)) = 0 := by
    have hnone : ((xs.map (·.1)).filter fun a => a.bay == b && a.line == i) = [] := by
      rw [List.filter_eq_nil_iff]
      intro a ha hnames
      obtain ⟨x, hx, rfl⟩ := List.mem_map.mp ha
      exact h ⟨x, hx, beq_iff_eq.mp (Bool.and_eq_true_iff.mp hnames).1⟩
    rw [grantedOn, hnone]
    rfl
  exact Build.mapLines_of_id (fun i l => by rw [placedLine, hcount, hgranted, Line.picked_none]) bd

/-- A bay that the pick does not name stays as it is. -/
theorem State.pickedBuild_of_untouched (h : ¬ ∃ x ∈ xs, x.1.bay = b) : s.pickedBuild xs b bd = bd := by
  have hcount (i : Nat) : ¬ 0 < countOn b i xs :=
    fun hpos => h ((countOn_pos.mp hpos).imp fun x hx => ⟨hx.1, hx.2.1⟩)
  have huntouched : (xs.any fun x => x.1.bay == b) = false := by
    rw [← Bool.not_eq_true, touched_iff]
    exact h
  have hwork : (s.pickedBuild xs b bd).work = bd.work := if_pos huntouched
  have hopens : (s.pickedBuild xs b bd).chillExpiry = bd.chillExpiry := by
    refine if_neg ?_
    simp [hcount]
  have hwhole : s.pickedBuild xs b bd = { s.placedBuild xs b bd with
      work := (s.pickedBuild xs b bd).work, chillExpiry := (s.pickedBuild xs b bd).chillExpiry } := rfl
  rw [hwhole, s.placedBuild_of_untouched xs b bd h, hwork, hopens]

end

/-! ## The placement of a pick -/

/-- The placement and the bay steps of a pick, and BAY_READY where a bay enters READY (R29, R129). -/
theorem State.placePick_eq (s : State) (e : LaneEntry) (taken : List Nat) (hlen : taken.length = e.allocations.length) :
    let xs := e.allocations.zip taken
    let entersReady := ∃ b bd, s.bay b = some bd ∧ bd.held = false ∧ bd.work ≠ .ready
      ∧ (s.pickedBuild xs b bd).work = .ready
    (entersReady → s.placePick e taken = (s.mapBays (s.pickedBuild xs)).setFlag .bayReady)
      ∧ (¬ entersReady → s.placePick e taken = s.mapBays (s.pickedBuild xs)) := by
  intro xs entersReady
  have hnames {b : BayNo} : b ∈ namedBays e.allocations ↔ ∃ x ∈ xs, x.1.bay = b := by
    have hmap : xs.map (·.1) = e.allocations := List.map_fst_zip (by omega)
    rw [mem_namedBays, ← hmap]
    simp only [List.mem_map, exists_exists_and_eq_and]
  have hplaced : xs.foldl State.place s = s.mapBays (s.placedBuild xs) := s.placeAll_eq xs
  generalize hp : s.mapBays (s.placedBuild xs) = p at hplaced
  have hframe : s.changedOnly p [.bays] := hp ▸ s.mapBays_changedOnly _
  have hbay (b : BayNo) : p.bay b = (s.bay b).map (s.placedBuild xs b) := hp ▸ s.mapBays_bay _ b
  have hexpiry : p.newChillExpiry = s.newChillExpiry := State.newChillExpiry_of_frame hframe (by simp)
  have hitems : p.items = s.items := hframe .items (by simp)
  obtain ⟨hraises, hkeeps⟩ := (placement_bayStepOf xs p).foldl_eq (namedBays_nodup e.allocations)
  have hwhole : p.setBays (Vector.ofFn fun b : Fin 8 => if b ∈ namedBays e.allocations then
      (p.bay b).map (Build.stepped p.items p.newChillExpiry xs b) else p.bay b) = s.mapBays (s.pickedBuild xs) := by
    have hvector : p.setBays (Vector.ofFn fun b : Fin 8 => (s.bay b).map (s.pickedBuild xs b))
        = s.mapBays (s.pickedBuild xs) := by
      rw [← hp]
      rfl
    rw [← hvector]
    refine p.setBays_ofFn_congr fun b => ?_
    rw [hexpiry, hitems, hbay]
    by_cases hb : b ∈ namedBays e.allocations
    · rw [if_pos hb, Option.map_map]
      cases s.bay b with
      | none => rfl
      | some bd => exact congrArg some (s.pickedBuild_of_touched xs b bd (hnames.mp hb)).symm
    · rw [if_neg hb]
      cases s.bay b with
      | none => rfl
      | some bd =>
        have hno : ¬ ∃ x ∈ xs, x.1.bay = b := mt hnames.mpr hb
        refine congrArg some ?_
        rw [s.pickedBuild_of_untouched xs b bd hno, s.placedBuild_of_untouched xs b bd hno]
  have hpick : s.placePick e taken = (namedBays e.allocations).foldl (State.bayStep xs) p := by
    rw [← hplaced]
    rfl
  have henters : entersReady ↔ ∃ b ∈ namedBays e.allocations, ∃ bd, p.bay b = some bd ∧ bd.held = false
      ∧ bd.work ≠ .ready ∧ (bd.stepped p.items p.newChillExpiry xs b).work = .ready := by
    rw [hitems, hexpiry]
    constructor
    · rintro ⟨b, bd, hbd, hheld, hwork, hready⟩
      have htouched : ∃ x ∈ xs, x.1.bay = b := by
        by_contra hno
        rw [s.pickedBuild_of_untouched xs b bd hno] at hready
        exact hwork hready
      rw [s.pickedBuild_of_touched xs b bd htouched] at hready
      exact ⟨b, hnames.mpr htouched, s.placedBuild xs b bd, by rw [hbay, hbd]; rfl, hheld, hwork, hready⟩
    · rintro ⟨b, hb, bd', hbd', hheld, hwork, hready⟩
      rw [hbay, Option.map_eq_some_iff] at hbd'
      obtain ⟨bd, hbd, rfl⟩ := hbd'
      rw [← s.pickedBuild_of_touched xs b bd (hnames.mp hb)] at hready
      exact ⟨b, bd, hbd, hheld, hwork, hready⟩
  rw [hwhole] at hraises hkeeps
  rw [hpick]
  exact ⟨fun h => hraises (henters.mp h), fun h => hkeeps fun b hb bd hbd hin => h (henters.mpr ⟨b, hb, bd, hbd, hin⟩)⟩

end Sys2Proof.Machine

/-! PROOF. An accepted Confirm Pick (R128 to R131): its placement, the settlement of a short pick, and the end of the
departure. -/

namespace Sys2Proof.Machine

/-! ## The settlement of a short pick -/

/-- NOTICE_LOST after a TALLY is offered (R61): it is set where the TALLY finds no place. -/
theorem State.offerTally_noticeLost (s : State) (p : Payload) : EventFlag.noticeLost.isSet (s.offerTally p).port =
    (EventFlag.noticeLost.isSet s.port || decide (s.ctl.mode ≠ .muted ∧ joinQueue s.li.queue p = none)) := by
  unfold State.offerTally
  by_cases hm : s.ctl.mode = .muted
  · rw [if_pos hm]
    simp [hm, State.countLine]
  · rw [if_neg hm]
    cases hq : joinQueue s.li.queue p with
    | some q => simp [State.setQueue]
    | none =>
      have hport : ((s.countLine (·.addDropped 1)).setFlag .noticeLost).port = s.port.setFlag .noticeLost := rfl
      rw [hport, BenchPort.isSet_setFlag]
      simp [hm]

/-- The tote's entry after a short pick (R130). -/
def shortEntry (e : LaneEntry) (now : Nat) : ToteEntry → ToteEntry := settledEntry e fun x => x.shortPicked now

/-- The table after a short pick (R130). -/
def shortTable (table : List ToteEntry) (e : LaneEntry) (now : Nat) : List ToteEntry :=
  table.map fun x => if x.tote = e.tote then shortEntry e now x else x

/-- The TALLY of a short pick, for the entry of its tote in `s`, offered in `v` (R125, R130). -/
def State.shortTally (s v : State) (e : LaneEntry) : State :=
  match s.toteEntry e.tote with
  | some x => v.offerTally (shortEntry e s.clock x).tally
  | none => v

section
variable {s v : State} {e : LaneEntry}

theorem State.shortTally_of_some {x : ToteEntry} (h : s.toteEntry e.tote = some x) :
    s.shortTally v e = v.offerTally (shortEntry e s.clock x).tally := by
  rw [State.shortTally, h]

theorem State.shortTally_of_none (h : s.toteEntry e.tote = none) : s.shortTally v e = v := by
  rw [State.shortTally, h]

variable (s v e) in
theorem State.shortTally_changedOnly : v.changedOnly (s.shortTally v e) [.li, .port] := by
  cases hx : s.toteEntry e.tote with
  | some x =>
    rw [State.shortTally_of_some hx]
    exact State.offerTally_changedOnly _ _
  | none =>
    rw [State.shortTally_of_none hx]
    exact v.changedOnly_refl _

variable (s v e) in
theorem State.shortTally_raises : v.port.raisedTo (s.shortTally v e).port [.noticeLost] := by
  cases hx : s.toteEntry e.tote with
  | some x =>
    rw [State.shortTally_of_some hx]
    exact (State.offerTally_loggedTo _ _).port
  | none =>
    rw [State.shortTally_of_none hx]
    exact BenchPort.raisedTo_refl _ _

/-- The queue and NOTICE_LOST after the TALLY depend on the mode, the queue and NOTICE_LOST before it. -/
theorem State.shortTally_congr {w : State} (hctl : w.ctl = v.ctl) (hli : w.li = v.li)
    (hlost : EventFlag.noticeLost.isSet w.port = EventFlag.noticeLost.isSet v.port) :
    (s.shortTally w e).li = (s.shortTally v e).li
      ∧ EventFlag.noticeLost.isSet (s.shortTally w e).port = EventFlag.noticeLost.isSet (s.shortTally v e).port := by
  cases hx : s.toteEntry e.tote with
  | some x =>
    rw [State.shortTally_of_some hx, State.shortTally_of_some hx, State.offerTally_noticeLost,
      State.offerTally_noticeLost, hctl, hli, hlost]
    exact ⟨State.offerTally_li_congr hctl hli _, rfl⟩
  | none =>
    rw [State.shortTally_of_none hx, State.shortTally_of_none hx]
    exact ⟨hli, hlost⟩

/-- The settlement of a pick, short or not (R130). -/
theorem State.settleShort_eq (htotes : v.totes = s.totes) (hclock : v.clock = s.clock) (taken : Nat) :
    v.settleShort e taken = if taken < e.drawn then
      (s.shortTally (v.setTotes { s.totes with table := shortTable s.totes.table e s.clock }) e).record
        (.shortTote e.tote e.item e.drawn taken) else v := by
  have hentry : v.toteEntry e.tote = s.toteEntry e.tote := by
    rw [State.toteEntry, htotes]
    rfl
  rw [State.settleShort, hclock]
  cases hx : s.toteEntry e.tote with
  | some x =>
    rw [State.shortTally_of_some hx, State.settle_of_entry (hentry.trans hx), htotes]
    rfl
  | none =>
    have hsame : shortTable s.totes.table e s.clock = s.totes.table := by
      have hno := List.find?_eq_none.mp hx
      refine (List.map_congr_left fun y hy => if_neg ?_).trans (List.map_id _)
      exact fun heq => hno y hy (beq_iff_eq.mpr heq)
    have hsettle : v.settle e (fun x => x.shortPicked s.clock) = v := by
      rw [State.settle, hentry, hx]
    rw [State.shortTally_of_none hx, hsame, hsettle, ← htotes]
    rfl

end

/-! ## Confirm Pick -/

/-- An accepted Confirm Pick at the bench port (R129, R131). -/
theorem exec_confirmPick_ok {tx taken : List Byte} {s : State} {e : LaneEntry} (hs : s.listens)
    (hm : s.ctl.mode ≠ .loading) (hb : carries tx (BitVec.ofNat 8 taken.length :: taken)) (he : s.headAtBench = some e)
    (hfits : takenFits e (taken.map (·.toNat)) = true) : exec (.confirmPick tx) s = .next
      ((s.confirmPick e (taken.map (·.toNat))).replied tx.length (okReply (pickOutput e (taken.map (·.toNat)).sum))) := by
  have hgo : ¬ takenFits e (taken.map (·.toNat)) = false := by
    rw [hfits]
    decide
  have howner : confirmPickOwner (BitVec.ofNat 8 taken.length :: taken) (s.beginRequest tx.length) =
      ((s.beginRequest tx.length).confirmPick e (taken.map (·.toNat)),
        okReply (pickOutput e (taken.map (·.toNat)).sum)) := by
    rw [confirmPickOwner, State.beginRequest_headAtBench, he]
    exact if_neg hgo
  rw [exec_confirmPick hs hm hb, howner]
  rw [State.beginRequest_eq_withReply hs.2, State.confirmPick_withReply, State.withReply_finishRequest]

/-- A line whose wait was set to 0 has it at 0 after the trials too (R49, R50, R142). -/
theorem State.triesMade.wait_zero {u t : State} {bs : List BayNo} (h : u.triesMade t bs) {b : BayNo} {i : Nat}
    {l l' : Line} (hl : (u.linesOf b)[i]? = some l) (hl' : (t.linesOf b)[i]? = some l')
    (hzero : l.wait.value u.clock = 0) : l'.wait.value u.clock = 0 := by
  obtain ⟨htried, huntried⟩ := h b i l l' hl hl'
  by_cases hat : u.triesAtOnce bs b i
  · obtain ⟨-, hwait, -, -⟩ | ⟨-, hwait, -, -⟩ := htried hat
    · exact hwait
    · rw [hwait, hzero]
  · obtain ⟨-, hwait, -, -⟩ := huntried hat
    rw [hwait, hzero]

/-- What the settlement of a pick leaves of the part: `v` stands after the placement in `s` (R130). -/
structure State.settlesTo (s v w : State) (e : LaneEntry) (taken : Nat) : Prop where
  frame : v.changedOnly w [.li, .totes, .dev, .port]
  totes : w.totes = if decide (taken < e.drawn) = true then
    { s.totes with table := shortTable s.totes.table e s.clock } else s.totes
  li : w.li = (if decide (taken < e.drawn) = true then s.shortTally s e else s).li
  lost : EventFlag.noticeLost.isSet w.port =
    EventFlag.noticeLost.isSet (if decide (taken < e.drawn) = true then s.shortTally s e else s).port
  raises : v.port.raisedTo w.port [.noticeLost, .deviation]
  dev : w.dev = if decide (taken < e.drawn) = true then s.dev.add s.clock (.shortTote e.tote e.item e.drawn taken)
    else s.dev
  recorded : decide (taken < e.drawn) = true → EventFlag.deviation.isSet w.port = true

theorem State.settled {s v : State} (hv : s.changedOnly v [.bays, .port])
    (hlost : EventFlag.noticeLost.isSet v.port = EventFlag.noticeLost.isSet s.port) (e : LaneEntry) (taken : Nat) :
    s.settlesTo v (v.settleShort e taken) e taken := by
  have hclock : v.clock = s.clock := hv .clock (by simp)
  have htotes : v.totes = s.totes := hv .totes (by simp)
  have hctl : v.ctl = s.ctl := hv .ctl (by simp)
  have hli : v.li = s.li := hv .li (by simp)
  have hdev : v.dev = s.dev := hv .dev (by simp)
  rw [State.settleShort_eq htotes hclock]
  by_cases hshort : taken < e.drawn
  · let t := v.setTotes { s.totes with table := shortTable s.totes.table e s.clock }
    obtain ⟨htli, htlost⟩ := State.shortTally_congr (s := s) (e := e) (v := s) (w := t) hctl hli hlost
    have htframe := s.shortTally_changedOnly t e
    have htraises := s.shortTally_raises t e
    have htframe' : v.changedOnly (s.shortTally t e) [.li, .totes, .port] :=
      State.changedOnly_trans (State.changedOnly_mono (State.setTotes_changedOnly _ _) (by simp))
        (State.changedOnly_mono htframe (by simp))
    have httotes : (s.shortTally t e).totes = { s.totes with table := shortTable s.totes.table e s.clock } :=
      htframe .totes (by simp)
    have htdev : (s.shortTally t e).dev = s.dev := (htframe' .dev (by simp)).trans hdev
    have htclock : (s.shortTally t e).clock = s.clock := (htframe' .clock (by simp)).trans hclock
    rw [if_pos hshort]
    generalize s.shortTally t e = r at htli htlost htframe' htraises httotes htdev htclock ⊢
    have hport : (r.record (.shortTote e.tote e.item e.drawn taken)).port = r.port.setFlag .deviation := rfl
    refine ⟨?_, ?_, ?_, ?_, ?_, ?_, fun _ => ?_⟩
    · exact State.changedOnly_trans (State.changedOnly_mono htframe' (by simp))
        (State.changedOnly_mono (State.record_changedOnly _ _) (by simp))
    · rw [if_pos (decide_eq_true hshort)]
      exact httotes
    · rw [if_pos (decide_eq_true hshort)]
      exact htli
    · rw [if_pos (decide_eq_true hshort), hport, ← htlost]
      simp [BenchPort.isSet_setFlag]
    · rw [hport]
      exact BenchPort.raisedTo_trans (BenchPort.raisedTo_mono htraises (by simp))
        (BenchPort.raisedTo_mono (BenchPort.setFlag_raisedTo _ _) (by simp))
    · rw [if_pos (decide_eq_true hshort), ← htdev, ← htclock]
      rfl
    · rw [hport]
      simp [BenchPort.isSet_setFlag]
  · have hno : ¬ decide (taken < e.drawn) = true := by simpa using hshort
    rw [if_neg hshort]
    refine ⟨v.changedOnly_refl _, ?_, ?_, ?_, BenchPort.raisedTo_refl _ _, ?_, fun h => absurd h hno⟩
    · rw [if_neg hno, htotes]
    · rw [if_neg hno, hli]
    · rw [if_neg hno, hlost]
    · rw [if_neg hno, hdev]

/-- A line that the pick placed units on has its wait at 0 (R49). -/
theorem Line.picked_wait_zero {items : List ItemRecord} {now taken granted : Nat} {l : Line} (h : 0 < taken) :
    (l.picked items now taken granted).wait.value now = 0 := by
  have hwait : (l.picked items now taken granted).wait = l.wait.zero now := if_neg (Nat.ne_of_gt h)
  rw [hwait, Wait.zero_value]

theorem State.pickedBuild_line (s : State) (xs : List (Allocation × Nat)) (b : BayNo) (bd : Build) (i : Nat) :
    (s.pickedBuild xs b bd).lines[i]? = (bd.lines[i]?).map (placedLine s xs b i) := s.placedBuild_getElem? xs b bd i

/-- Builds alike but for waits and trials have a line in the same places. -/
theorem Build.stock_getElem? {bd bd' : Build} (h : bd.stock = bd'.stock) {i : Nat} {l' : Line}
    (hl' : bd'.lines[i]? = some l') : ∃ l, bd.lines[i]? = some l := by
  have hlength : bd.lines.length = bd'.lines.length := by
    simpa [Build.stock] using congrArg (fun x => x.lines.length) h
  have hi : i < bd.lines.length := hlength ▸ (List.getElem?_eq_some_iff.mp hl').1
  exact ⟨_, List.getElem?_eq_getElem hi⟩

/-- What a change of every bay leaves, with BAY_READY set where `enters` holds (R29). -/
structure State.readiedTo (s v : State) (g : BayNo → Build → Build) (enters : Prop) : Prop where
  frame : s.changedOnly v [.bays, .port]
  bay : ∀ b, v.bay b = (s.bay b).map (g b)
  raises : s.port.raisedTo v.port [.bayReady]
  ready : EventFlag.bayReady.isSet v.port = true ↔ EventFlag.bayReady.isSet s.port = true ∨ enters

theorem State.readied {s v : State} {g : BayNo → Build → Build} {enters : Prop}
    (hraises : enters → v = (s.mapBays g).setFlag .bayReady) (hkeeps : ¬ enters → v = s.mapBays g) :
    s.readiedTo v g enters := by
  by_cases h : enters
  · rw [hraises h]
    refine ⟨?_, fun b => s.mapBays_bay g b, BenchPort.setFlag_raisedTo _ _, ?_⟩
    · exact State.changedOnly_trans (State.changedOnly_mono (s.mapBays_changedOnly g) (by simp))
        (State.changedOnly_mono (State.setFlag_changedOnly _ _) (by simp))
    · simp only [h, or_true, iff_true]
      show EventFlag.bayReady.isSet (BenchPort.setFlag _ _) = true
      simp [BenchPort.isSet_setFlag]
  · rw [hkeeps h]
    refine ⟨State.changedOnly_mono (s.mapBays_changedOnly g) (by simp), s.mapBays_bay g, BenchPort.raisedTo_refl _ _, ?_⟩
    rw [or_iff_left h]
    rfl

/-- Settles O25: the placement, the settlement where the pick is short, the end of the departure and the answer. -/
theorem confirmPickPlacesAndEndsTheDeparture : Obligations.ConfirmPickPlacesAndEndsTheDeparture := by
  intro tx taken e s hs hm hb he hlen hfit counts xs isShort settled entersReady reply placed totes offering offered settling
  have hcounts : counts.length = e.allocations.length := by rw [List.length_map, hlen]
  obtain ⟨hraises, hkeeps⟩ := s.placePick_eq e counts hcounts
  have hexec : exec (.confirmPick tx) s = .next ((s.confirmPick e counts).replied tx.length reply) :=
    exec_confirmPick_ok hs hm hb he (takenFits_iff.mpr ⟨hlen, hfit⟩)
  generalize hv : s.placePick e counts = v at hraises hkeeps
  have hplaces := State.readied hraises hkeeps
  have hsettled := State.settled hplaces.frame (hplaces.raises.isSet_eq (by simp)) e counts.sum
  have hw : settling v = v.settleShort e counts.sum := by
    refine Eq.trans ?_
      (State.settleShort_eq (hplaces.frame .totes (by simp)) (hplaces.frame .clock (by simp)) counts.sum).symm
    exact if_congr decide_eq_true_iff rfl rfl
  rw [State.confirmPick, hv] at hexec
  generalize v.settleShort e counts.sum = w at hexec hsettled hw
  have hwframe : s.changedOnly w [.bays, .li, .totes, .dev, .port] :=
    State.changedOnly_trans (State.changedOnly_mono hplaces.frame (by simp))
      (State.changedOnly_mono hsettled.frame (by simp))
  rw [State.pulseMerge_endDeparture (hwframe .lane (by simp))] at hexec
  let u := w.setLane { s.lane with queue := s.laneWithout e.tote, merge := true }
  have huframe : s.changedOnly u [.bays, .li, .totes, .lane, .dev, .port] :=
    State.changedOnly_trans (State.changedOnly_mono hwframe (by simp))
      (State.changedOnly_mono (State.setLane_changedOnly _ _) (by simp))
  have hubay (b : BayNo) : u.bay b = (s.bay b).map (s.pickedBuild xs b) := by
    have hbays : w.bays = v.bays := hsettled.frame .bays (by simp)
    exact (congrArg (fun x : Vector (Option Build) 8 => x[b]) hbays).trans (hplaces.bay b)
  have hends := State.departed (namedBays_nodup e.allocations) huframe hubay
  have huclock : u.clock = s.clock := huframe .clock (by simp)
  have hport : w.port.raisedTo ((u.reevaluate (namedBays e.allocations)).changeCheck).closingChecked.port
    [.deviation, .modeChanged] := hends.port
  have hlane : u.lane = { s.lane with queue := s.laneWithout e.tote, merge := true } := rfl
  have hutotes : u.totes = w.totes := rfl
  have huli : u.li = w.li := rfl
  have hudev : u.dev = w.dev := rfl
  have hu : u = (settling v).setLane { s.lane with queue := s.laneWithout e.tote, merge := true } := by rw [hw]
  replace hexec : exec (.confirmPick tx) s = .next
      ((((u.reevaluate (namedBays e.allocations)).changeCheck).closingChecked).replied tx.length reply) := hexec
  clear_value u reply
  generalize ht : ((u.reevaluate (namedBays e.allocations)).changeCheck).closingChecked = t at hends hexec hport
  have hwaits (b : BayNo) (bd' : Build) (i : Nat) (l' : Line) (hbd' : t.bay b = some bd')
      (hl' : bd'.lines[i]? = some l') (hcount : 0 < countOn b i xs) : l'.wait.value s.clock = 0 := by
    have hstock := hends.stock b
    rw [hbd'] at hstock
    cases hbd : s.bay b with
    | none =>
      rw [hbd] at hstock
      cases hstock
    | some bd =>
      rw [hbd] at hstock
      obtain ⟨l, hl⟩ := Build.stock_getElem? (Option.some.inj hstock).symm hl'
      have hline := hl
      rw [State.pickedBuild_line, Option.map_eq_some_iff] at hline
      obtain ⟨l0, -, rfl⟩ := hline
      have hul : (u.linesOf b)[i]? = some (placedLine s xs b i l0) := by
        rw [State.linesOf_of_bay ((hubay b).trans (congrArg (Option.map _) hbd))]
        exact hl
      have hzero : (placedLine s xs b i l0).wait.value u.clock = 0 := by
        rw [huclock]
        exact Line.picked_wait_zero hcount
      rw [← huclock]
      exact hends.tries.wait_zero hul (by rw [State.linesOf_of_bay hbd']; exact hl') hzero
  have hraised : s.port.raisedTo t.port [.bayReady, .deviation, .noticeLost, .modeChanged] :=
    BenchPort.raisedTo_trans (BenchPort.raisedTo_mono hplaces.raises (by simp))
      (BenchPort.raisedTo_trans (BenchPort.raisedTo_mono hsettled.raises (by simp))
        (BenchPort.raisedTo_mono hport (by simp)))
  have hready : EventFlag.bayReady.isSet t.port = true ↔ EventFlag.bayReady.isSet s.port = true ∨ entersReady := by
    rw [hport.isSet_eq (by simp), hsettled.raises.isSet_eq (by simp)]
    exact hplaces.ready
  refine ⟨v, u, t.replied tx.length reply, hraises, hkeeps, hu, hexec, by rw [ht], hends.tries.replied _ _, hends.stock,
    hwaits, fun a ha => (hends.follow a.bay (mem_namedBays.mpr ⟨a, ha, rfl⟩)).replied _ _,
    (hends.totes.trans hutotes).trans hsettled.totes, ?_, hraised.onlyRaises.replied _ _, ?_, hready, ?_,
    fun hshort => hport.isSet (hsettled.recorded hshort), hends.lane.trans hlane, hends.ctl.trans (by rw [hlane]),
    State.replied_holds _ _ _, ?_⟩
  · have hoffered : u.li = offered.li := huli.trans hsettled.li
    rw [← hoffered]
    exact LineInterface.marked_withMarker hends.marked
  · exact (hport.isSet_eq (by simp)).trans hsettled.lost
  · rw [← show u.dev = _ from hudev.trans hsettled.dev]
    exact hends.dev
  · exact State.changedOnly_trans hends.frame (State.changedOnly_mono (State.replied_changedOnly _ _ _) (by simp))

end Sys2Proof.Machine

/-! PROOF. What an operation leaves of the Build Store and the lane when it does not touch what is ordered, placed or pinned
(R8, R18, R48, R118): the counts of every line, the promises, and the accumulators on their condition. -/

namespace Sys2Proof.Machine

/-! ## Promises -/

/-- A build's projection lies within its floor and ceiling (R18). -/
def Build.promised (items : List ItemRecord) (bd : Build) : Prop :=
  bd.floor ≤ projectedValue items bd.lines ∧ projectedWeight items bd.lines ≤ bd.ceiling

/-- Two builds promise the same and project the same. -/
structure Build.samePromise (items : List ItemRecord) (bd bd' : Build) : Prop where
  floor : bd'.floor = bd.floor
  ceiling : bd'.ceiling = bd.ceiling
  value : projectedValue items bd'.lines = projectedValue items bd.lines
  weight : projectedWeight items bd'.lines = projectedWeight items bd.lines

theorem Build.samePromise.promised {items : List ItemRecord} {bd bd' : Build} (h : bd.samePromise items bd')
    (hp : bd.promised items) : bd'.promised items := by
  obtain ⟨hfloor, hceiling⟩ := hp
  exact ⟨by rw [h.floor, h.value]; exact hfloor, by rw [h.weight, h.ceiling]; exact hceiling⟩

/-- Every build that `t` holds was held by `s` and projects the same. -/
theorem State.promisesKept_of_same {s t : State} (hitems : t.items = s.items)
    (h : ∀ b bd', t.bay b = some bd' → ∃ bd, s.bay b = some bd ∧ bd.samePromise s.items bd') (hs : s.promisesKept) :
    t.promisesKept := by
  intro b bd' hbd'
  obtain ⟨bd, hbd, hsame⟩ := h b bd' hbd'
  rw [hitems]
  exact hsame.promised (hs b bd hbd)

theorem State.promisesKept_of_bays {s t : State} (hbays : t.bays = s.bays) (hitems : t.items = s.items)
    (hs : s.promisesKept) : t.promisesKept :=
  State.promisesKept_of_same hitems
    (fun b bd' h => ⟨bd', by rwa [State.bay, ← hbays], rfl, rfl, rfl, rfl⟩) hs

theorem State.evalBays_promisesKept {s : State} (bs : List BayNo) (hs : s.promisesKept) : (s.evalBays bs).promisesKept := by
  refine foldl_keeps (P := State.promisesKept) (fun t b ht => ?_) bs s hs
  refine State.promisesKept_of_same (t.modifyBuild_changedOnly b _ .items (by simp)) (fun c bd' h => ?_) ht
  rw [State.modifyBuild_bay] at h
  split at h
  · next hc =>
    obtain ⟨bd, hbd, rfl⟩ := Option.map_eq_some_iff.mp h
    refine ⟨bd, hc ▸ hbd, rfl, rfl, ?_, ?_⟩
    · simp only [projectedValue, evalBuild, List.map_map]
      rfl
    · simp only [projectedWeight, evalBuild, List.map_map]
      rfl
  · exact ⟨bd', h, rfl, rfl, rfl, rfl⟩

theorem map_modify_congr {α β : Type} {f g : α → α} {h : α → β} (e : ∀ a, h (f a) = h (g a)) (xs : List α) (i : Nat) :
    (xs.modify i f).map h = (xs.modify i g).map h := by
  refine List.ext_getElem? fun k => ?_
  simp only [List.getElem?_map, List.getElem?_modify]
  cases xs[k]? with
  | none => rfl
  | some a =>
    by_cases hk : i = k
    · simp [hk, e]
    · simp [hk]

/-- Changes of one line with the same terms project the same (R17). -/
theorem projected_modify_congr {items : List ItemRecord} {f g : Line → Line}
    (hv : ∀ l, (f l).valueTerm items = (g l).valueTerm items) (hw : ∀ l, (f l).weightTerm items = (g l).weightTerm items)
    (lines : List Line) (i : Nat) : projectedValue items (lines.modify i f) = projectedValue items (lines.modify i g)
      ∧ projectedWeight items (lines.modify i f) = projectedWeight items (lines.modify i g) :=
  ⟨congrArg List.sum (map_modify_congr hv lines i), congrArg List.sum (map_modify_congr hw lines i)⟩

theorem State.switchLine_bays (s : State) (b : BayNo) (i p : Nat) (bd : Build) (l : Line) :
    (s.switchLine b i p bd l).bays = (s.modifyLine b i (Line.switched s.clock p)).bays :=
  (State.bays_of_changedOnly (State.changeCheck_changedOnly _) (by simp)).trans rfl

theorem State.noFit_bays (s : State) (b : BayNo) (i : Nat) (bd : Build) (l : Line) :
    (s.noFit b i bd l).bays = (s.modifyLine b i Line.unswitched).bays := by
  unfold State.noFit
  dsimp only
  split
  · rfl
  · rfl

/-- A change of one line after which that build projects within its promises. -/
theorem State.modifyLine_promisesKept {s t : State} {b : BayNo} {i : Nat} {f : Line → Line} {bd : Build}
    (hbays : t.bays = (s.modifyLine b i f).bays) (hitems : t.items = s.items) (hbd : s.bay b = some bd)
    (hf : bd.floor ≤ projectedValue s.items (bd.lines.modify i f)
      ∧ projectedWeight s.items (bd.lines.modify i f) ≤ bd.ceiling) (hs : s.promisesKept) :
    t.promisesKept := by
  intro c bd' hbd'
  rw [State.bay, hbays] at hbd'
  change (s.modifyLine b i f).bay c = some bd' at hbd'
  rw [State.modifyLine, State.modifyBuild_bay, hbd] at hbd'
  rw [hitems]
  split at hbd'
  · cases hbd'
    exact hf
  · exact hs c bd' hbd'

/-- A trial switches to a candidate that fits, and otherwise changes no figure of the projection (R141 to R143). -/
theorem State.trial_promisesKept {s : State} (b : BayNo) (i : Nat) (hs : s.promisesKept) : (s.trial b i).promisesKept := by
  have hitems : (s.trial b i).items = s.items := s.trial_changedOnly b i .items (by simp)
  cases hbd : s.bay b with
  | none => rwa [State.trial, hbd]
  | some bd =>
    cases hl : bd.lines[i]? with
    | none =>
      rw [State.trial, hbd]
      dsimp only
      rwa [hl]
    | some l =>
      cases hp : l.candidates.find? (fits s.items bd i) with
      | some p =>
        have hfits := List.find?_some hp
        rw [fits, Bool.and_eq_true, decide_eq_true_eq, decide_eq_true_eq] at hfits
        have hbays : (s.trial b i).bays = (s.modifyLine b i (Line.switched s.clock p)).bays := by
          rw [State.trial_of_fit hbd hl hp, State.switchLine_bays]
        refine State.modifyLine_promisesKept hbays hitems hbd ?_ hs
        obtain ⟨hvalue, hweight⟩ := projected_modify_congr (items := s.items) (f := Line.switched s.clock p)
          (g := Line.moved p) (fun _ => rfl) (fun _ => rfl) bd.lines i
        rwa [hvalue, hweight]
      | none =>
        have hbays : (s.trial b i).bays = (s.modifyLine b i Line.unswitched).bays := by
          rw [State.trial_of_noFit hbd hl hp, State.noFit_bays]
        refine State.modifyLine_promisesKept hbays hitems hbd ?_ hs
        obtain ⟨hvalue, hweight⟩ := projected_modify_congr (items := s.items) (f := Line.unswitched) (g := id)
          (fun _ => rfl) (fun _ => rfl) bd.lines i
        rw [hvalue, hweight, List.modify_id]
        exact hs b bd hbd

theorem State.reevaluate_promisesKept {s : State} (bs : List BayNo) (hs : s.promisesKept) :
    (s.reevaluate bs).promisesKept := by
  obtain ⟨order, -, heq⟩ := (s.evalBays bs).trials_eq (bs.flatMap s.trialsIn)
  rw [State.reevaluate, heq]
  refine foldl_keeps (P := State.promisesKept) (fun t x ht => State.trial_promisesKept x.1 x.2 ht) order _ ?_
  exact State.evalBays_promisesKept bs hs

/-! ## Work states and counts -/

/-- A build's work state and what its lines hold, but for waits, trials and active positions (R8, R26). -/
def Build.ledger (bd : Build) : WorkState × List Line := (bd.work, bd.lines.map Line.stock)

def State.sameLedger (s t : State) : Prop := ∀ b, (t.bay b).map Build.ledger = (s.bay b).map Build.ledger

theorem State.sameLedger_refl (s : State) : s.sameLedger s := fun _ => rfl

theorem State.sameLedger_trans {s t u : State} (h : s.sameLedger t) (k : t.sameLedger u) : s.sameLedger u :=
  fun b => (k b).trans (h b)

theorem Build.ledger_stock (bd : Build) : bd.stock.ledger = bd.ledger := by
  simp [Build.ledger, Build.stock, Line.stock]

theorem State.sameStock.sameLedger {s t : State} (h : s.sameStock t) : s.sameLedger t := by
  intro b
  have hstock (x : Option Build) : x.map Build.ledger = (x.map Build.stock).map Build.ledger := by
    rw [Option.map_map]
    exact congrArg (Option.map · x) (funext fun bd => (bd.ledger_stock).symm)
  rw [hstock (t.bay b), hstock (s.bay b), h b]

/-! ## What an operation leaves -/

/-- From `s` to `t` nothing is ordered, placed or pinned and no tote enters or leaves the lane; the promises stay kept, and
the accumulators follow their condition where they did, and in the bays `bs`. -/
structure State.settledTo (s t : State) (bs : List BayNo) : Prop where
  items : t.items = s.items
  queue : t.lane.queue = s.lane.queue
  active : t.loader.active = s.loader.active
  loading : t.ctl.mode = .loading → s.ctl.mode = .loading
  ledger : s.sameLedger t
  follow : ∀ b, b ∈ bs ∨ s.waitsFollow b → t.waitsFollow b
  promises : s.promisesKept → t.promisesKept

theorem State.settledTo_refl (s : State) : s.settledTo s [] :=
  ⟨rfl, rfl, rfl, id, s.sameLedger_refl, fun _ hb => hb.resolve_left (by simp), id⟩

theorem State.settledTo.trans {s t u : State} {bs cs : List BayNo} (h : s.settledTo t bs) (k : t.settledTo u cs) :
    s.settledTo u bs :=
  ⟨k.items.trans h.items, k.queue.trans h.queue, k.active.trans h.active, h.loading ∘ k.loading,
    State.sameLedger_trans h.ledger k.ledger, fun b hb => k.follow b (.inr (h.follow b hb)), k.promises ∘ h.promises⟩

/-- Fewer bays. -/
theorem State.settledTo.less {s t : State} {bs : List BayNo} (h : s.settledTo t bs) : s.settledTo t [] :=
  { h with follow := fun b hb => h.follow b (.inr (hb.resolve_left (by simp))) }

theorem State.waitsFollow_of_same {s t : State} {b : BayNo} (hbay : t.bay b = s.bay b) (hmode : t.ctl.mode = s.ctl.mode)
    (hitems : t.items = s.items) (h : s.waitsFollow b) : t.waitsFollow b := by
  intro bd hbd l hl
  rw [hmode, hitems]
  exact h bd (hbay ▸ hbd) l hl

/-- What leaves the modes, the items, the bays, the lane's queue and the active settings alone. -/
theorem State.settledTo_of_same {s t : State} (hmode : t.ctl.mode = s.ctl.mode) (hitems : t.items = s.items)
    (hbays : t.bays = s.bays) (hqueue : t.lane.queue = s.lane.queue) (hactive : t.loader.active = s.loader.active) :
    s.settledTo t [] := by
  have hbay (b : BayNo) : t.bay b = s.bay b := by rw [State.bay, State.bay, hbays]
  exact ⟨hitems, hqueue, hactive, fun h => hmode ▸ h, fun b => by rw [hbay],
    fun b hb => State.waitsFollow_of_same (hbay b) hmode hitems (hb.resolve_left (by simp)),
    State.promisesKept_of_bays hbays hitems⟩

theorem State.settledTo_of_changedOnly {s t : State} {ws : List Block} (h : s.changedOnly t ws)
    (hws : .ctl ∉ ws ∧ .items ∉ ws ∧ .bays ∉ ws ∧ .lane ∉ ws ∧ .loader ∉ ws) : s.settledTo t [] := by
  obtain ⟨hctl, hitems, hbays, hlane, hloader⟩ := hws
  exact State.settledTo_of_same (congrArg ModeControl.mode (h .ctl hctl)) (h .items hitems) (h .bays hbays)
    (congrArg Lane.queue (h .lane hlane)) (congrArg Loader.active (h .loader hloader))

/-! ## Operations -/

theorem State.reevaluate_settledTo (s : State) (bs : List BayNo) : s.settledTo (s.reevaluate bs) bs := by
  have hframe := s.reevaluate_changedOnly bs
  obtain ⟨⟨rstock, -⟩, -, rfollow⟩ := s.reevaluate_spec bs
  have hctl : (s.reevaluate bs).ctl = s.ctl := hframe .ctl (by simp)
  have hlane : (s.reevaluate bs).lane = s.lane := hframe .lane (by simp)
  have hloader : (s.reevaluate bs).loader = s.loader := hframe .loader (by simp)
  exact ⟨hframe .items (by simp), by rw [hlane], by rw [hloader], by rw [hctl]; exact id, rstock.sameLedger, rfollow,
    State.reevaluate_promisesKept bs⟩

theorem State.trial_settledTo (s : State) (b : BayNo) (i : Nat) : s.settledTo (s.trial b i) [] := by
  have hframe := s.trial_changedOnly b i
  obtain ⟨hstock, hfollow, -⟩ := s.trial_tried b i
  have hctl : (s.trial b i).ctl = s.ctl := hframe .ctl (by simp)
  have hlane : (s.trial b i).lane = s.lane := hframe .lane (by simp)
  have hloader : (s.trial b i).loader = s.loader := hframe .loader (by simp)
  exact ⟨hframe .items (by simp), by rw [hlane], by rw [hloader], by rw [hctl]; exact id, hstock.sameLedger,
    fun c hc => hfollow c (hc.resolve_left (by simp)), State.trial_promisesKept b i⟩

theorem State.changeCheck_settledTo (s : State) : s.settledTo s.changeCheck [] :=
  State.settledTo_of_changedOnly s.changeCheck_changedOnly (by simp)

theorem State.setFlag_settledTo (s : State) (f : EventFlag) : s.settledTo (s.setFlag f) [] :=
  State.settledTo_of_changedOnly (s.setFlag_changedOnly f) (by simp)

theorem State.record_settledTo (s : State) (k : DeviationKind) : s.settledTo (s.record k) [] :=
  State.settledTo_of_changedOnly (s.record_changedOnly k) (by simp)

/-- A change of mode, LOADING apart, has every accumulator evaluated (R165). -/
theorem State.changeMode_settledTo (s : State) {m : Mode} (bySetMode : Bool) (hm : m ≠ .loading) :
    s.settledTo (s.changeMode m bySetMode) allBays := by
  obtain ⟨hctl, hstock, -, -, hfollow, -⟩ := s.changeMode_spec m bySetMode
  have hframe := s.changeMode_changedOnly m bySetMode
  have hlane : (s.changeMode m bySetMode).lane = s.lane := hframe .lane (by simp)
  have hloader : (s.changeMode m bySetMode).loader = s.loader := hframe .loader (by simp)
  refine ⟨hframe .items (by simp), by rw [hlane], by rw [hloader], fun h => ?_, hstock.sameLedger, fun b _ => hfollow b,
    fun hs => ?_⟩
  · rw [hctl] at h
    exact absurd h hm
  · have hmode : (s.withMode m).promisesKept := State.promisesKept_of_bays rfl rfl hs
    have hchecked := ((s.withMode m).reevaluate_settledTo allBays).trans (State.changeCheck_settledTo _)
    unfold State.changeMode
    dsimp only
    split
    · exact hchecked.promises hmode
    · exact (hchecked.trans (State.setFlag_settledTo _ _)).promises hmode

theorem State.closingCheck_settledTo (s : State) : s.settledTo s.closingCheck [] := by
  unfold State.closingCheck
  split
  · exact (s.changeMode_settledTo false (by simp)).less
  · exact s.settledTo_refl

/-- The evaluation, the change check and the CLOSING check of a departure (R124). -/
theorem State.departure_settledTo (s : State) (bs : List BayNo) :
    s.settledTo ((s.reevaluate bs).changeCheck).closingCheck bs :=
  ((s.reevaluate_settledTo bs).trans (State.changeCheck_settledTo _)).trans (State.closingCheck_settledTo _)

/-- A change of the bays that spoils the accumulators of some, and the evaluation of these. -/
theorem State.settledTo.of_evaluated {s u t : State} {ws : List Block} {bs : List BayNo} (hframe : s.changedOnly u ws)
    (hws : .ctl ∉ ws ∧ .items ∉ ws ∧ .lane ∉ ws ∧ .loader ∉ ws) (hother : ∀ b, b ∉ bs → u.bay b = s.bay b)
    (hsame : ∀ b bd', u.bay b = some bd' → ∃ bd, s.bay b = some bd ∧ bd.samePromise s.items bd')
    (hledger : s.sameLedger u) (h : u.settledTo t bs) : s.settledTo t [] := by
  obtain ⟨hctl, hitems, hlane, hloader⟩ := hws
  have hmode : u.ctl.mode = s.ctl.mode := congrArg ModeControl.mode (hframe .ctl hctl)
  have hui : u.items = s.items := hframe .items hitems
  refine ⟨h.items.trans hui, h.queue.trans (congrArg Lane.queue (hframe .lane hlane)),
    h.active.trans (congrArg Loader.active (hframe .loader hloader)), fun hl => hmode ▸ h.loading hl,
    State.sameLedger_trans hledger h.ledger, fun b hb => ?_, fun hs => h.promises (State.promisesKept_of_same hui hsame hs)⟩
  by_cases hin : b ∈ bs
  · exact h.follow b (.inl hin)
  · exact h.follow b (.inr (State.waitsFollow_of_same (hother b hin) hmode hui (hb.resolve_left (by simp))))

end Sys2Proof.Machine

/-! PROOF. How a command can change the Build Store and the lane: it leaves them settled, changes the item table, opens or
empties a bay, or has a tote join the lane, arrive in it or leave it. What each of these keeps, every command but the starts
keeps. -/

namespace Sys2Proof.Machine

/-! ## The kinds of change -/

/-- A tote has left the lane: its units are unpinned, or placed as far as they were taken (R9, R10, R124). -/
structure State.leavesLane (s u : State) (e : LaneEntry) (g : BayNo → Build → Build) : Prop where
  mem : e ∈ s.lane.queue
  frame : s.changedOnly u [.bays, .li, .totes, .lane, .dev, .port]
  queue : u.lane.queue = s.laneWithout e.tote
  bays : ∀ b, u.bay b = (s.bay b).map (g b)
  units : g = Build.unpinned e.allocations
    ∨ ∃ taken, takenFits e taken = true ∧ g = s.pickedBuild (e.allocations.zip taken)

/-- A tote has joined the lane, its units granted and pinned (R9, R109 to R116, R118). -/
structure State.joinsLane (s u : State) (e : LaneEntry) : Prop where
  mode : s.ctl.mode = .active ∨ s.ctl.mode = .closing
  room : s.lane.queue.length < s.loader.active.laneCapacity
  new : ∀ x ∈ s.lane.queue, x.tote ≠ e.tote
  inbound : e.state = .inbound
  frame : s.changedOnly u [.bays, .li, .totes, .lane]
  queue : u.lane.queue = s.lane.queue ++ [e]
  bays : ∀ b, u.bay b = (s.bay b).map (Build.pinnedWith e.allocations b)
  places : (e.allocations.map fun a => (a.bay, a.line)).Nodup
  needed : ∀ a ∈ e.allocations, ∃ l, (s.linesOf a.bay)[a.line]? = some l ∧ a.granted ≤ l.needed

/-- Kept by each kind of change. -/
structure StoreKeeps (P : State → Prop) : Prop where
  settled : ∀ {s t : State}, s.settledTo t [] → P s → P t
  items : ∀ {s : State} {v : List ItemRecord}, s.linesNamed → s.itemsUpdate v → P s → P (s.setItems v)
  emptied : ∀ {s : State} {b : BayNo} {bd : Build}, s.bay b = some bd → bd.hasPins = false ∨ bd.isReady = true → P s →
    P (s.setBay b none)
  opened : ∀ {s : State} {b : BayNo} {p : BuildParams}, s.bay b = none → s.checkBuild p = none → s.ctl.mode ≠ .loading →
    P s → P ((s.setBay b (some (s.newBuild p))).evalBays [b])
  arrived : ∀ {s : State}, P s → P (s.setLaneQueue (matchArrival s.clock s.lane.queue))
  staled : ∀ {s : State} (q : LaneEntry → Bool), P s →
    P (s.setLaneQueue (s.lane.queue.map fun e => if q e = true then { e with stale := true } else e))
  left : ∀ {s u t : State} {e : LaneEntry} {g : BayNo → Build → Build}, s.leavesLane u e g →
    u.settledTo t (namedBays e.allocations) → P s → P t
  joined : ∀ {s u t : State} {e : LaneEntry}, s.joinsLane u e → u.settledTo t (namedBays e.allocations) → P s → P t

/-! ## Bays touched -/

/-- The build keeps its work state, its lines and its promises. -/
structure Build.sameStore (bd bd' : Build) : Prop where
  work : bd'.work = bd.work
  lines : bd'.lines = bd.lines
  floor : bd'.floor = bd.floor
  ceiling : bd'.ceiling = bd.ceiling

theorem Build.sameStore_refl (bd : Build) : bd.sameStore bd := ⟨rfl, rfl, rfl, rfl⟩

theorem Build.sameStore.trans {a b c : Build} (h : a.sameStore b) (k : b.sameStore c) : a.sameStore c :=
  ⟨k.work.trans h.work, k.lines.trans h.lines, k.floor.trans h.floor, k.ceiling.trans h.ceiling⟩

theorem Build.sameStore.samePromise {bd bd' : Build} (h : bd.sameStore bd') (items : List ItemRecord) :
    bd.samePromise items bd' := ⟨h.floor, h.ceiling, by rw [h.lines], by rw [h.lines]⟩

/-- From `s` to `u` the builds of some bays are held, released, or marked for their expiries. -/
structure State.touchedTo (s u : State) (bs : List BayNo) : Prop where
  frame : s.changedOnly u [.bays, .dev, .port]
  same : ∀ b bd', u.bay b = some bd' → ∃ bd, s.bay b = some bd ∧ bd.sameStore bd'
  none : ∀ b, u.bay b = none → s.bay b = none
  other : ∀ b, b ∉ bs → u.bay b = s.bay b

theorem State.touchedTo_refl (s : State) (bs : List BayNo) : s.touchedTo s bs :=
  ⟨s.changedOnly_refl _, fun _ bd h => ⟨bd, h, bd.sameStore_refl⟩, fun _ h => h, fun _ _ => rfl⟩

theorem State.touchedTo.trans {s t u : State} {bs : List BayNo} (h : s.touchedTo t bs) (k : t.touchedTo u bs) :
    s.touchedTo u bs := by
  refine ⟨State.changedOnly_trans h.frame k.frame, fun b bd' hbd' => ?_, fun b hb => h.none b (k.none b hb),
    fun b hb => (k.other b hb).trans (h.other b hb)⟩
  obtain ⟨bd, hbd, hsame⟩ := k.same b bd' hbd'
  obtain ⟨bd0, hbd0, hsame0⟩ := h.same b bd hbd
  exact ⟨bd0, hbd0, hsame0.trans hsame⟩

theorem State.foldl_touchedTo {f : State → BayNo → State} {bs : List BayNo}
    (hf : ∀ (t : State) (b : BayNo), b ∈ bs → t.touchedTo (f t b) bs) :
    ∀ (xs : List BayNo) (s : State), (∀ b ∈ xs, b ∈ bs) → s.touchedTo (xs.foldl f s) bs
  | [], s, _ => s.touchedTo_refl bs
  | x :: xs, s, h =>
    (hf s x (h x List.mem_cons_self)).trans
      (State.foldl_touchedTo hf xs (f s x) fun b hb => h b (List.mem_cons_of_mem _ hb))

theorem State.setBay_touchedTo {s : State} {b : BayNo} {bd bd' : Build} {bs : List BayNo} (hbd : s.bay b = some bd)
    (hsame : bd.sameStore bd') (hb : b ∈ bs) : s.touchedTo (s.setBay b (some bd')) bs := by
  have hbay (c : BayNo) := s.bay_setBay b c (some bd')
  refine ⟨State.changedOnly_mono (s.setBay_changedOnly b _) (by simp), fun c bd'' h => ?_, fun c h => ?_, fun c hc => ?_⟩
  · rw [hbay c] at h
    split at h
    · next hc =>
      cases h
      exact ⟨bd, hc ▸ hbd, hsame⟩
    · exact ⟨bd'', h, bd''.sameStore_refl⟩
  · rw [hbay c] at h
    split at h
    · cases h
    · exact h
  · rw [hbay c, if_neg]
    rintro rfl
    exact hc hb

theorem State.modifyBuild_touchedTo {f : Build → Build} (hf : ∀ bd : Build, bd.sameStore (f bd)) (s : State) {b : BayNo}
    {bs : List BayNo} (hb : b ∈ bs) : s.touchedTo (s.modifyBuild b f) bs := by
  unfold State.modifyBuild
  split
  · exact s.touchedTo_refl bs
  · next bd hbd => exact State.setBay_touchedTo hbd (hf bd) hb

/-- Flags and records touch no bay. -/
theorem State.touchedTo_of_changedOnly {s u : State} {ws : List Block} (h : s.changedOnly u ws)
    (hws : ∀ w ∈ ws, w ∈ [Block.dev, Block.port]) (bs : List BayNo) : s.touchedTo u bs := by
  have hbays : u.bays = s.bays := h .bays fun hin => by simpa using hws _ hin
  have hbay (b : BayNo) : u.bay b = s.bay b := by rw [State.bay, State.bay, hbays]
  exact ⟨State.changedOnly_mono h fun w hw => List.mem_cons_of_mem _ (hws w hw),
    fun b bd' hbd' => ⟨bd', (hbay b) ▸ hbd', Build.sameStore_refl bd'⟩, fun b hb => (hbay b) ▸ hb, fun b _ => hbay b⟩

theorem State.touchedTo.ledger {s u : State} {bs : List BayNo} (h : s.touchedTo u bs) : s.sameLedger u := by
  intro b
  cases hbd' : u.bay b with
  | none => rw [h.none b hbd']
  | some bd' =>
    obtain ⟨bd, hbd, hsame⟩ := h.same b bd' hbd'
    rw [hbd]
    simp only [Option.map_some, Build.ledger, hsame.work, hsame.lines]

/-- Bays touched whose accumulators follow as they did. -/
theorem State.touchedTo.settledTo_of_follow {s u : State} {bs : List BayNo} (h : s.touchedTo u bs)
    (hfollow : ∀ b, s.waitsFollow b → u.waitsFollow b) : s.settledTo u [] := by
  have hctl : u.ctl = s.ctl := h.frame .ctl (by simp)
  have hitems : u.items = s.items := h.frame .items (by simp)
  refine ⟨hitems, congrArg Lane.queue (h.frame .lane (by simp)), congrArg Loader.active (h.frame .loader (by simp)),
    fun hl => hctl ▸ hl, h.ledger, fun b hb => hfollow b (hb.resolve_left (by simp)), State.promisesKept_of_same hitems ?_⟩
  intro b bd' hbd'
  obtain ⟨bd, hbd, hsame⟩ := h.same b bd' hbd'
  exact ⟨bd, hbd, hsame.samePromise _⟩

/-- Bays touched and their accumulators evaluated. -/
theorem State.touchedTo.settledTo {s u t : State} {bs : List BayNo} (h : s.touchedTo u bs) (k : u.settledTo t bs) :
    s.settledTo t [] := by
  refine State.settledTo.of_evaluated h.frame (by simp) h.other (fun b bd' hbd' => ?_) h.ledger k
  obtain ⟨bd, hbd, hsame⟩ := h.same b bd' hbd'
  exact ⟨bd, hbd, hsame.samePromise _⟩

/-! ## Operations that settle -/

theorem Build.release_sameStore (bd : Build) (expiry : Nat) : bd.sameStore (bd.release expiry) := by
  unfold Build.release
  split
  · exact ⟨rfl, rfl, rfl, rfl⟩
  · exact ⟨rfl, rfl, rfl, rfl⟩

section
variable (s : State)

theorem State.releaseBay_touchedTo {b : BayNo} {bs : List BayNo} (hb : b ∈ bs) : s.touchedTo (s.releaseBay b) bs := by
  cases hbd : s.bay b with
  | none =>
    rw [State.releaseBay_of_none hbd]
    exact s.touchedTo_refl bs
  | some bd =>
    have hset := State.setBay_touchedTo hbd (bd.release_sameStore s.newChillExpiry) hb
    rw [State.releaseBay_of_some hbd]
    split
    · exact hset.trans (State.touchedTo_of_changedOnly (State.setFlag_changedOnly _ _) (by simp) bs)
    · exact hset

/-- Bays held or released: their accumulators are evaluated and one change check made (R34, R35). -/
theorem State.touchedTo.afterBayChanges {s u : State} {bs : List BayNo} (h : s.touchedTo u bs) :
    s.settledTo (u.afterBayChanges bs) [] := by
  unfold State.afterBayChanges
  split
  · next hnil =>
    refine h.settledTo ?_
    rw [hnil]
    exact u.settledTo_refl
  · exact h.settledTo ((u.reevaluate_settledTo bs).trans (State.changeCheck_settledTo _))

omit s in
theorem running_congr {mode : Mode} {items : List ItemRecord} {bd bd' : Build} (hheld : bd'.held = bd.held)
    (hwork : bd'.work = bd.work) (l : Line) : running mode items bd' l = running mode items bd l := by
  unfold running advertised Build.offers
  rw [hheld, hwork]

omit s in
/-- A build marked for an expiry leaves its accumulators as they follow. -/
theorem State.waitsFollow_setBay {s : State} {b c : BayNo} {bd bd' : Build} (hbd : s.bay b = some bd)
    (hheld : bd'.held = bd.held) (hsame : bd.sameStore bd') (h : s.waitsFollow c) :
    (s.setBay b (some bd')).waitsFollow c := by
  intro bd'' hbd'' l hl
  rw [s.bay_setBay] at hbd''
  split at hbd''
  · next hc =>
    cases hbd''
    exact (h bd (hc ▸ hbd) l (hsame.lines ▸ hl)).trans (running_congr hheld hsame.work l).symm
  · exact h bd'' hbd'' l hl

theorem State.setBay_settledTo {s : State} {b : BayNo} {bd bd' : Build} (hbd : s.bay b = some bd)
    (hheld : bd'.held = bd.held) (hsame : bd.sameStore bd') : s.settledTo (s.setBay b (some bd')) [] :=
  (State.setBay_touchedTo hbd hsame (List.mem_singleton.mpr rfl)).settledTo_of_follow fun _ =>
    State.waitsFollow_setBay hbd hheld hsame

theorem State.takeChill_settledTo (b : BayNo) : s.settledTo (s.takeChill b) [] := by
  unfold State.takeChill
  split
  · exact s.settledTo_refl
  · next bd hbd =>
    have hrecord := s.record_settledTo (.chillLapse b bd.orderRef)
    have hsame : bd.sameStore bd.lapsed := ⟨rfl, rfl, rfl, rfl⟩
    dsimp only
    split_ifs with _ hheld
    · exact s.settledTo_refl
    · exact hrecord.trans (State.setBay_settledTo hbd hheld.symm hsame)
    · refine hrecord.trans (State.touchedTo.settledTo (bs := [b])
        (State.setBay_touchedTo (s := s.record (.chillLapse b bd.orderRef)) hbd hsame (List.mem_singleton.mpr rfl)) ?_)
      exact (State.reevaluate_settledTo _ _).trans (State.changeCheck_settledTo _)

theorem State.takeDeadline_settledTo (b : BayNo) : s.settledTo (s.takeDeadline b) [] := by
  unfold State.takeDeadline
  split
  · exact s.settledTo_refl
  · next bd hbd =>
    split
    · exact State.setBay_settledTo hbd rfl ⟨rfl, rfl, rfl, rfl⟩
    · have hmarked : s.settledTo (s.setBay b (some { bd with deadlinePending := false, deadlineReported := true })) [] :=
        State.setBay_settledTo hbd rfl ⟨rfl, rfl, rfl, rfl⟩
      exact hmarked.trans (State.record_settledTo _ _)

theorem State.discardSettle_settledTo : s.settledTo (s.setCtl { s.ctl with settleExpiry := none }) [] :=
  State.settledTo_of_same rfl rfl rfl rfl rfl

theorem State.takeSettle_settledTo : s.settledTo s.takeSettle [] := by
  unfold State.takeSettle
  split
  · exact s.discardSettle_settledTo.trans
      (State.changeMode_settledTo (s.setCtl { s.ctl with settleExpiry := none }) (m := .active) false (by decide)).less
  · exact s.settledTo_refl

theorem State.acceptMode_settledTo {m : Mode} (hm : m ≠ .loading) : s.settledTo (s.acceptMode m) [] := by
  have hchange := (s.changeMode_settledTo true hm).less
  have hclosing := (s.changeMode_settledTo (m := .closing) true (by decide)).less
  unfold State.acceptMode
  generalize s.changeMode m true = t at hchange ⊢
  generalize s.changeMode .closing true = u at hclosing ⊢
  split_ifs
  · exact s.settledTo_refl
  · exact hclosing.trans u.closingCheck_settledTo
  · exact hchange

theorem State.mute_settledTo : s.settledTo s.mute [] := by
  unfold State.mute
  split
  · exact s.settledTo_refl
  · exact s.discardSettle_settledTo.trans
      (State.changeMode_settledTo (s.setCtl { s.ctl with settleExpiry := none }) (m := .muted) false (by decide)).less

theorem State.clash_settledTo : s.settledTo s.clash [] :=
  (s.mute_settledTo.trans (State.settledTo_of_changedOnly s.mute.emptyQueue_changedOnly (by simp))).trans
    (State.setFlag_settledTo _ _)

theorem State.receive_settledTo (c : FrameClass) : s.settledTo (s.receive c) [] := by
  obtain ⟨-, h⟩ | ⟨-, -, -, h⟩ | ⟨-, -, -, h⟩ := s.receive_cases c
  · rw [h]
    exact s.settledTo_refl
  · rw [h]
    exact State.settledTo_of_changedOnly (s.setLi_changedOnly _) (by simp)
  rw [h]
  cases c with
  | fragment => exact State.settledTo_of_changedOnly (s.countLine_changedOnly _) (by simp)
  | malformed => exact State.settledTo_of_changedOnly (s.countLine_changedOnly _) (by simp)
  | crcBad => exact State.settledTo_of_changedOnly s.countCrcBad_changedOnly (by simp)
  | good sender sequence payload =>
    have hcounted := State.settledTo_of_changedOnly (s.countLine_changedOnly LineCounters.incGood) (by simp)
    change s.settledTo (s.goodNotice sender sequence payload) []
    unfold State.goodNotice
    dsimp only
    split
    · exact hcounted.trans (State.clash_settledTo _)
    · exact hcounted.trans (State.settledTo_of_changedOnly (State.deliver_changedOnly _ _ _ _) (by simp))

end

end Sys2Proof.Machine

/-! PROOF. What each kind of change of the Build Store and the lane keeps, every command but the starts keeps. -/

namespace Sys2Proof.Machine

section
variable {P : State → Prop} (hP : StoreKeeps P) {s : State}
include hP

theorem StoreKeeps.changed {t : State} {ws : List Block} (h : s.changedOnly t ws)
    (hws : .ctl ∉ ws ∧ .items ∉ ws ∧ .bays ∉ ws ∧ .lane ∉ ws ∧ .loader ∉ ws) (hs : P s) : P t :=
  hP.settled (State.settledTo_of_changedOnly h hws) hs

theorem StoreKeeps.toPort : PortKeeps P := PortKeeps.of_setPort fun s p hs => hP.changed (s.setPort_changedOnly p) (by simp) hs

theorem StoreKeeps.serve {rule : List Byte → Bool} {refusal : Status → Reply} {tx : List Byte}
    {owner : List Byte → State → State × Reply}
    (howner : ∀ (block : List Byte) (t : State), t.ctl.mode ≠ .loading → P t → P (owner block t).1) (hs : P s) :
    P (s.whileUp fun t => t.serve rule false refusal tx owner) :=
  State.whileUp_keeps (fun _ => State.serve_keeps hP.toPort fun block t _ hm =>
    howner block t (by simpa using hm)) hs

/-! ## The bays -/

theorem StoreKeeps.openBuildOwner (block : List Byte) (hm : s.ctl.mode ≠ .loading) (hs : P s) :
    P (openBuildOwner block s).1 := by
  unfold Machine.openBuildOwner
  dsimp only
  split
  · exact hs
  · split
    · exact hs
    · next hempty =>
      split
      · exact hs
      · next hcheck =>
        have hopened := hP.opened (by simpa using hempty) hcheck hm hs
        refine hP.settled (State.settledTo.trans ?_ (State.changeCheck_settledTo _)) hopened
        unfold State.deadlineAtOnce
        split
        · exact State.takeDeadline_settledTo _ _
        · exact State.settledTo_refl _

theorem StoreKeeps.returnToEmpty {b : BayNo} {bd : Build} (hbd : s.bay b = some bd)
    (h : bd.hasPins = false ∨ bd.isReady = true) (hs : P s) : P (s.returnToEmpty b) :=
  hP.settled ((State.changeCheck_settledTo _).trans (State.closingCheck_settledTo _)) (hP.emptied hbd h hs)

theorem StoreKeeps.cancelBuildOwner (block : List Byte) (hs : P s) : P (cancelBuildOwner block s).1 := by
  unfold Machine.cancelBuildOwner
  split
  · exact hs
  · split
    · exact hs
    · next hbd =>
      split
      · exact hs
      · next hpins => exact hP.returnToEmpty hbd (.inl (by simpa using hpins)) hs

theorem StoreKeeps.sealBuildOwner (block : List Byte) (hs : P s) : P (sealBuildOwner block s).1 := by
  unfold Machine.sealBuildOwner
  split
  · exact hs
  · split
    · exact hs
    · next hbd =>
      split
      · exact hs
      · next hready => exact hP.returnToEmpty hbd (.inr (by simpa using hready)) hs

theorem StoreKeeps.holdBaysOwner (block : List Byte) (hs : P s) : P (holdBaysOwner block s).1 := by
  refine hP.settled (State.touchedTo.afterBayChanges ?_) hs
  exact State.foldl_touchedTo
    (fun t b hb => State.modifyBuild_touchedTo (f := Build.hold) (fun _ => ⟨rfl, rfl, rfl, rfl⟩) t hb) _ _ fun _ h => h

theorem StoreKeeps.releaseBaysOwner (block : List Byte) (hs : P s) : P (releaseBaysOwner block s).1 := by
  refine hP.settled (State.touchedTo.afterBayChanges ?_) hs
  exact State.foldl_touchedTo (fun t b hb => t.releaseBay_touchedTo hb) _ _ fun _ h => h

theorem StoreKeeps.setModeOwner (block : List Byte) (hs : P s) : P (setModeOwner block s).1 := by
  unfold Machine.setModeOwner
  split
  · exact hs
  · next m hm =>
    split
    · exact hs
    · exact hP.settled (s.acceptMode_settledTo (modeOf_ne_loading hm)) hs

/-! ## The items -/

theorem StoreKeeps.setItems {v : List ItemRecord} (h : s.itemsUpdate v) (hs : s.linesNamed ∧ P s) :
    (s.setItems v).linesNamed ∧ P (s.setItems v) := ⟨h.linesNamed hs.1, hP.items hs.1 h hs.2⟩

theorem StoreKeeps.loadRecords : ∀ (rs : List RawItem) (s : State) (taken : Nat), (∀ r ∈ rs, r.value ≤ 65535) →
    s.linesNamed ∧ P s → (s.loadRecords rs taken).1.linesNamed ∧ P (s.loadRecords rs taken).1
  | [], _, _, _, hs => hs
  | r :: rs, s, taken, hv, hs => by
    unfold State.loadRecords
    split
    · exact hs
    · next hr =>
      exact StoreKeeps.loadRecords rs _ _ (fun x hx => hv x (List.mem_cons_of_mem _ hx))
        (hP.setItems (.taken r hr (hv r List.mem_cons_self)) hs)

theorem StoreKeeps.loadItemsOwner (block : List Byte) (hs : s.linesNamed ∧ P s) :
    (loadItemsOwner block s).1.linesNamed ∧ P (loadItemsOwner block s).1 := by
  unfold Machine.loadItemsOwner
  dsimp only
  split
  · exact hs
  · exact hP.loadRecords _ _ _ (parseItems_value_le _) hs

theorem StoreKeeps.removeItemOwner (block : List Byte) (hs : s.linesNamed ∧ P s) :
    (removeItemOwner block s).1.linesNamed ∧ P (removeItemOwner block s).1 := by
  unfold Machine.removeItemOwner
  dsimp only
  split_ifs with _ _ hused
  · exact hs
  · exact hs
  · exact hs
  · exact hP.setItems (.removed _ (by simpa using hused)) hs

/-- A request on the item table (R3, R5). -/
theorem StoreKeeps.serveItems {rule : List Byte → Bool} {refusal : Status → Reply} {tx : List Byte}
    {owner : List Byte → State → State × Reply}
    (howner : ∀ (block : List Byte) (t : State), t.linesNamed ∧ P t → (owner block t).1.linesNamed ∧ P (owner block t).1)
    (hs : s.linesNamed ∧ P s) : P (s.whileUp fun t => t.serve rule false refusal tx owner) := by
  have hport : PortKeeps fun t => t.linesNamed ∧ P t := PortKeeps.of_setPort fun t p ht =>
    ⟨ht.1, hP.changed (t.setPort_changedOnly p) (by simp) ht.2⟩
  exact (State.whileUp_keeps (P := fun t => t.linesNamed ∧ P t)
    (fun _ => State.serve_keeps hport fun block t _ _ => howner block t) hs).2

/-! ## The lane -/

theorem StoreKeeps.laneSame {v : Lane} (hv : v.queue = s.lane.queue) (hs : P s) : P (s.setLane v) :=
  hP.settled (State.settledTo_of_same (s := s) (t := s.setLane v) rfl rfl rfl hv rfl) hs

theorem StoreKeeps.setFlag (f : EventFlag) (hs : P s) : P (s.setFlag f) := hP.settled (s.setFlag_settledTo f) hs

theorem StoreKeeps.arrival (hs : P s) : P s.arrival := by
  unfold State.arrival
  split
  · exact hP.setFlag _ (hP.arrived hs)
  · exact hP.setFlag _ (hP.laneSame rfl hs)

theorem StoreKeeps.takeDwell (tote : ToteId) (hs : P s) : P (s.takeDwell tote) := by
  unfold State.takeDwell
  split
  · exact hP.setFlag _ (hP.staled _ hs)
  · exact hs

/-- The end of a departure, its units unpinned or placed (R124). -/
theorem StoreKeeps.endDeparture {w : State} {e : LaneEntry} {g : BayNo → Build → Build} (he : e ∈ s.lane.queue)
    (hframe : s.changedOnly w [.bays, .li, .totes, .lane, .dev, .port]) (hqueue : w.lane.queue = s.lane.queue)
    (hbays : ∀ b, w.bay b = (s.bay b).map (g b))
    (hunits : g = Build.unpinned e.allocations
      ∨ ∃ taken, takenFits e taken = true ∧ g = s.pickedBuild (e.allocations.zip taken)) (hs : P s) :
    P (w.endDeparture e) := by
  refine hP.left (u := w.setLaneQueue (w.laneWithout e.tote)) ⟨he, ?_, ?_, hbays, hunits⟩
    (State.departure_settledTo _ _) hs
  · exact State.changedOnly_trans hframe (State.changedOnly_mono (State.setLane_changedOnly _ _) (by simp))
  · show w.laneWithout e.tote = s.laneWithout e.tote
    rw [State.laneWithout, State.laneWithout, hqueue]

omit hP in
/-- The units given back and the count settled (R9, R107). -/
theorem State.settled_unpinned (s : State) (e : LaneEntry) (f : ToteEntry → ToteEntry) :
    s.changedOnly ((s.unpinAll e.allocations).settle e f) [.bays, .li, .totes, .port]
      ∧ ∀ b, ((s.unpinAll e.allocations).settle e f).bay b = (s.bay b).map (Build.unpinned e.allocations b) := by
  have hsettle := (s.unpinAll e.allocations).settle_changedOnly e f
  have hbays : ((s.unpinAll e.allocations).settle e f).bays = (s.unpinAll e.allocations).bays := hsettle .bays (by simp)
  refine ⟨State.changedOnly_trans (State.changedOnly_mono (s.unpinAll_changedOnly _) (by simp))
    (State.changedOnly_mono hsettle (by simp)), fun b => ?_⟩
  rw [State.bay, hbays, State.unpinAll_eq]
  exact s.mapBays_bay _ b

theorem StoreKeeps.returnTote {e : LaneEntry} (he : e ∈ s.lane.queue) (hs : P s) : P (s.returnTote e) := by
  obtain ⟨hframe, hbays⟩ := s.settled_unpinned e fun x => x.restored e.drawn s.clock
  refine hP.endDeparture he ?_ ?_ hbays (.inl rfl) hs
  · exact State.changedOnly_trans (State.changedOnly_mono hframe (by simp))
      (State.changedOnly_mono (State.setLane_changedOnly _ _) (by simp))
  · have hlane : ((s.unpinAll e.allocations).settle e fun x => x.restored e.drawn s.clock).lane = s.lane :=
      hframe .lane (by simp)
    rw [← hlane]
    rfl

theorem StoreKeeps.takeConfirmExpiry (tote : ToteId) (hs : P s) : P (s.takeConfirmExpiry tote) := by
  unfold State.takeConfirmExpiry
  split
  · exact hs
  · next e he =>
    obtain ⟨hframe, hbays⟩ := s.settled_unpinned e fun x => x.restored e.drawn s.clock
    refine hP.endDeparture (List.mem_of_find?_eq_some he) ?_ ?_ hbays (.inl rfl) hs
    · exact State.changedOnly_trans (State.changedOnly_mono hframe (by simp))
        (State.changedOnly_trans (State.changedOnly_mono (State.record_changedOnly _ _) (by simp))
          (State.changedOnly_mono (State.setFlag_changedOnly _ _) (by simp)))
    · exact congrArg Lane.queue (hframe .lane (by simp))

omit hP in
/-- The placement of a pick, whether a bay enters READY by it or not (R129). -/
theorem State.placePick_bay (s : State) {e : LaneEntry} {taken : List Nat} (hlen : taken.length = e.allocations.length)
    (b : BayNo) : (s.placePick e taken).bay b = (s.bay b).map (s.pickedBuild (e.allocations.zip taken) b) := by
  obtain ⟨hraises, hkeeps⟩ := s.placePick_eq e taken hlen
  exact (State.readied hraises hkeeps).bay b

theorem StoreKeeps.confirmPick {e : LaneEntry} {taken : List Nat} (he : e ∈ s.lane.queue) (hfits : takenFits e taken = true)
    (hs : P s) : P (s.confirmPick e taken) := by
  have hlen : taken.length = e.allocations.length := by
    rw [takenFits, Bool.and_eq_true, beq_iff_eq] at hfits
    exact hfits.1
  have hframe := s.placePick_changedOnly e taken
  have hshort := (s.placePick e taken).settleShort_changedOnly e taken.sum
  refine hP.endDeparture he ?_ ?_ (fun b => ?_) (.inr ⟨taken, hfits, rfl⟩) hs
  · exact State.changedOnly_trans (State.changedOnly_mono hframe (by simp))
      (State.changedOnly_trans (State.changedOnly_mono hshort (by simp))
        (State.changedOnly_mono (State.setLane_changedOnly _ _) (by simp)))
  · exact (congrArg Lane.queue (hshort .lane (by simp))).trans (congrArg Lane.queue (hframe .lane (by simp)))
  · rw [← s.placePick_bay hlen]
    exact congrArg (fun x : Vector (Option Build) 8 => x[b]) (hshort .bays (by simp))

theorem StoreKeeps.confirmPickOwner (block : List Byte) (hs : P s) : P (confirmPickOwner block s).1 := by
  unfold Machine.confirmPickOwner
  split
  · exact hs
  · next e he =>
    split
    · exact hs
    · next hfits => exact hP.confirmPick (List.mem_of_find?_eq_some he) (by simpa using hfits) hs

theorem StoreKeeps.returnToteOwner (block : List Byte) (hs : P s) : P (returnToteOwner block s).1 := by
  unfold Machine.returnToteOwner
  split
  · exact hs
  · next e he => exact hP.returnTote (List.mem_of_find?_eq_some he) hs

/-! ## Tag reads -/

omit hP in
theorem State.share_joins {s u : State} {laneFull : Bool} {e : ToteEntry} (hmay : s.mayDivert laneFull e = true)
    (hnew : ∀ x ∈ s.lane.queue, x.tote ≠ e.tote) (hu : s.changedOnly u [.li]) :
    s.joinsLane ((u.joinLane (u.newLaneEntry e (s.share e))).mapBays (Build.pinnedWith (s.share e)))
      (u.newLaneEntry e (s.share e)) := by
  obtain ⟨hmode, hroom, -, -⟩ := State.mayDivert_iff.mp hmay
  have hlane : u.lane = s.lane := hu .lane (by simp)
  have hbays : u.bays = s.bays := hu .bays (by simp)
  refine ⟨hmode, hroom, hnew, rfl, ?_, ?_, fun b => ?_, s.share_places_nodup e, fun a ha => ?_⟩
  · exact State.changedOnly_trans (State.changedOnly_mono hu (by simp))
      (State.changedOnly_trans (State.changedOnly_mono (State.setLane_changedOnly _ _) (by simp))
        (State.changedOnly_mono (State.mapBays_changedOnly _ _) (by simp)))
  · rw [← hlane]
    rfl
  · have hbay : (u.joinLane (u.newLaneEntry e (s.share e))).bay b = s.bay b :=
      congrArg (fun x : Vector (Option Build) 8 => x[b]) hbays
    rw [State.mapBays_bay, hbay]
    rfl
  · obtain ⟨-, o, ho, hobay, hoindex, -, hle⟩ := s.mem_share e ha
    obtain ⟨hbd, hl, -⟩ := State.mem_advertisedLines.mp ho
    refine ⟨o.line, ?_, hle⟩
    rw [← hobay, ← hoindex, State.linesOf_of_bay hbd]
    exact hl

theorem StoreKeeps.shareDecision (laneFull : Bool) {e : ToteEntry} (hnew : ∀ x ∈ s.lane.queue, x.tote ≠ e.tote)
    (hs : P s) : P (s.shareDecision laneFull e) := by
  by_cases hmay : s.mayDivert laneFull e = true
  · by_cases hsum : grantedSum (s.share e) = 0
    · rwa [State.shareDecision_passes (.inr (.inl hsum))]
    · cases hu : s.offerDraw (e.drawPayload (grantedSum (s.share e))) with
      | none => rwa [State.shareDecision_passes (.inr (.inr hu))]
      | some u =>
        have hqueued : s.changedOnly u [.li] := by
          obtain ⟨-, q, -, rfl⟩ := State.offerDraw_some hu
          exact s.setQueue_changedOnly q
        rw [State.shareDecision_diverts hmay hsum hu, State.divert_eq]
        refine hP.joined (State.share_joins hmay hnew hqueued) ?_ hs
        exact ((State.reevaluate_settledTo _ _).trans
          (State.settledTo_of_changedOnly (State.putEntry_changedOnly _ _) (by simp))).trans (State.changeCheck_settledTo _)
  · rwa [State.shareDecision_passes (.inl hmay)]

omit hP in
theorem taggedEntry_tote (s : State) (t : Tag) (now : Nat) : (taggedEntry (s.toteEntry t.tote) t now).tote = t.tote := by
  unfold taggedEntry
  split
  · rfl
  · next e he =>
    split
    · exact (State.toteEntry_some he).2
    · rfl

theorem StoreKeeps.readerFrame (frame : List ReaderChar) (laneFull : Bool) (hs : P s) :
    P (s.readerFrame frame laneFull) := by
  unfold State.readerFrame
  split
  · exact hP.changed (s.setTotes_changedOnly _) (by simp) hs
  · next t _ =>
    split
    · exact hP.changed (s.setTotes_changedOnly _) (by simp) hs
    · next hout =>
      unfold State.goodRead
      dsimp only
      refine hP.shareDecision laneFull (fun x hx => ?_) (hP.changed (State.putEntry_changedOnly _ _) (by simp)
        (hP.changed (s.setTotes_changedOnly _) (by simp) hs))
      rw [taggedEntry_tote]
      exact fun htote => hout (State.inLane_iff.mpr ⟨x, hx, htote⟩)

theorem StoreKeeps.setDecoder (d : ReaderDecoder) (hs : P s) : P (s.setDecoder d) :=
  hP.changed (s.setDecoder_changedOnly d) (by simp) hs

theorem StoreKeeps.readerCharacter (laneFull : Bool) (c : ReaderChar) (hs : P s) : P (s.readerCharacter laneFull c) := by
  unfold State.readerCharacter
  split
  · exact hs
  · exact hs
  · split
    · exact hP.setDecoder _ hs
    · exact hP.readerFrame _ _ (hP.setDecoder _ hs)
  · exact hP.setDecoder _ hs

theorem StoreKeeps.readerActivity (activity : List ReaderEvent) (laneFull : Bool) (hs : P s) :
    P (s.readerActivity activity laneFull) :=
  foldl_keeps
    (fun t e ht => by
      cases e with
      | idle => exact hP.changed t.readerIdle_changedOnly (by simp) ht
      | character c => exact hP.readerCharacter laneFull c ht) activity s hs

/-! ## Commands -/

/-- The background write of the settings leaves the active ones (R170). -/
theorem StoreKeeps.writing {t : State} (h : s.changedOnly t [.port, .loader])
    (hactive : t.loader.active = s.loader.active) (hs : P s) : P t :=
  hP.settled (State.settledTo_of_same (congrArg ModeControl.mode (h .ctl (by simp))) (h .items (by simp))
    (h .bays (by simp)) (congrArg Lane.queue (h .lane (by simp))) hactive) hs

/-- Every command but the starts and the settings load. -/
theorem StoreKeeps.exec {c : Instr} {t : State} (h : exec c s = .next t) (hreset : ∀ straps, c ≠ .hardReset straps)
    (hrestart : ∀ straps tx, c ≠ .restart straps tx) (hload : ∀ record, c ≠ .settingsLoad record)
    (htimeout : c ≠ .settingsLoadTimeout) (hn : s.linesNamed) (hs : P s) : P t := by
  have hactive := (exec_settings h hreset hrestart hload htimeout).1
  have hframe := exec_changedOnly h
  cases c with
  | hardReset straps => exact absurd rfl (hreset straps)
  | restart straps tx => exact absurd rfl (hrestart straps tx)
  | settingsLoad record => exact absurd rfl (hload record)
  | settingsLoadTimeout => exact absurd rfl htimeout
  | resetLow => cases h; exact hP.settled (State.settledTo_of_same (s := s) (t := s.lowerReset) rfl rfl rfl rfl rfl) hs
  | writeSettings tx => exact hP.writing (State.changedOnly_mono hframe (by simp [fieldsWritten])) hactive hs
  | writeAccessEnd => exact hP.writing (State.changedOnly_mono hframe (by simp [fieldsWritten])) hactive hs
  | writeAccessTimeout => exact hP.writing (State.changedOnly_mono hframe (by simp [fieldsWritten])) hactive hs
  | settleExpiry => cases h; exact whileUp_keeps_of (hP.settled s.takeSettle_settledTo hs) hs
  | loadItems tx => cases h; exact hP.serveItems (fun block _ => hP.loadItemsOwner block) ⟨hn, hs⟩
  | removeItem tx => cases h; exact hP.serveItems (fun block _ => hP.removeItemOwner block) ⟨hn, hs⟩
  | openBuild tx => cases h; exact hP.serve (fun block _ hm => hP.openBuildOwner block hm) hs
  | cancelBuild tx => cases h; exact hP.serve (fun block _ _ => hP.cancelBuildOwner block) hs
  | sealBuild tx => cases h; exact hP.serve (fun block _ _ => hP.sealBuildOwner block) hs
  | holdBays tx => cases h; exact hP.serve (fun block _ _ => hP.holdBaysOwner block) hs
  | releaseBays tx => cases h; exact hP.serve (fun block _ _ => hP.releaseBaysOwner block) hs
  | confirmPick tx => cases h; exact hP.serve (fun block _ _ => hP.confirmPickOwner block) hs
  | returnTote tx => cases h; exact hP.serve (fun block _ _ => hP.returnToteOwner block) hs
  | setMode tx => cases h; exact hP.serve (fun block _ _ => hP.setModeOwner block) hs
  | tagRead earlier last laneFull =>
    cases h
    exact whileUp_keeps_of (hP.readerCharacter laneFull last (hP.readerActivity earlier laneFull hs)) hs
  | arrival lowMicros =>
    cases h
    refine whileUp_keeps_of ?_ hs
    split
    · exact hs
    · exact hP.arrival hs
  | divertPulseEnd => cases h; exact whileUp_keeps_of (hP.laneSame rfl hs) hs
  | mergePulseEnd => cases h; exact whileUp_keeps_of (hP.laneSame rfl hs) hs
  | divertConfirmExpiry tote => cases h; exact whileUp_keeps_of (hP.takeConfirmExpiry tote hs) hs
  | dwellExpiry tote => cases h; exact whileUp_keeps_of (hP.takeDwell tote hs) hs
  | chillWindowExpiry bay => cases h; exact whileUp_keeps_of (hP.settled (s.takeChill_settledTo bay) hs) hs
  | deadlineExpiry bay =>
    cases h
    refine whileUp_keeps_of ?_ hs
    split
    · exact hP.settled (s.takeDeadline_settledTo bay) hs
    · exact hs
  | substituteWaitExpiry bay line =>
    cases h
    refine whileUp_keeps_of ?_ hs
    split
    · exact hP.settled (s.trial_settledTo bay line.val) hs
    · exact hs
  | badFrame levels => cases h; exact whileUp_keeps_of (hP.settled (s.receive_settledTo _) hs) hs
  | joinNotice sender sequence laneCapacity bayCount revision =>
    cases h; exact whileUp_keeps_of (hP.settled (s.receive_settledTo _) hs) hs
  | demandNotice sender sequence entries =>
    cases h; exact whileUp_keeps_of (hP.settled (s.receive_settledTo _) hs) hs
  | drawNotice sender sequence tote serial item units remaining =>
    cases h; exact whileUp_keeps_of (hP.settled (s.receive_settledTo _) hs) hs
  | tallyNotice sender sequence tote serial item remaining =>
    cases h; exact whileUp_keeps_of (hP.settled (s.receive_settledTo _) hs) hs
  | _ => exact hP.changed hframe (by simp [fieldsWritten]) hs

end

end Sys2Proof.Machine

/-! PROOF. Every step keeps each accumulator running exactly on its condition (R2, R22, R48). -/

namespace Sys2Proof.Machine

/-! ## Bays a lane entry does not name -/

theorem grantedOn_of_unnamed {as : List Allocation} {b : BayNo} (h : b ∉ namedBays as) (i : Nat) : grantedOn b i as = 0 := by
  have hnone : (as.filter fun a => a.bay == b && a.line == i) = [] := by
    rw [List.filter_eq_nil_iff]
    intro a ha hnames
    exact h (mem_namedBays.mpr ⟨a, ha, beq_iff_eq.mp (Bool.and_eq_true_iff.mp hnames).1⟩)
  rw [grantedOn, hnone]
  rfl

theorem Build.unpinned_of_unnamed {as : List Allocation} {b : BayNo} (h : b ∉ namedBays as) (bd : Build) :
    Build.unpinned as b bd = bd :=
  Build.mapLines_of_id (h := fun i l => { l with pinned := l.pinned - grantedOn b i as })
    (fun i l => by rw [grantedOn_of_unnamed h]; rfl) bd

theorem Build.pinnedWith_of_unnamed {as : List Allocation} {b : BayNo} (h : b ∉ namedBays as) (bd : Build) :
    Build.pinnedWith as b bd = bd :=
  Build.mapLines_of_id (h := fun i l => { l with pinned := l.pinned + grantedOn b i as })
    (fun i l => by rw [grantedOn_of_unnamed h]; rfl) bd

theorem State.leavesLane.bay_of_unnamed {s u : State} {e : LaneEntry} {g : BayNo → Build → Build} (h : s.leavesLane u e g)
    {b : BayNo} (hb : b ∉ namedBays e.allocations) : u.bay b = s.bay b := by
  have hsame (bd : Build) : g b bd = bd := by
    obtain hunpinned | ⟨taken, -, hpicked⟩ := h.units
    · rw [hunpinned, Build.unpinned_of_unnamed hb]
    · rw [hpicked]
      refine s.pickedBuild_of_untouched _ b bd fun ⟨x, hx, hbay⟩ => hb ?_
      exact mem_namedBays.mpr ⟨x.1, (List.of_mem_zip hx).1, hbay⟩
  rw [h.bays, funext hsame]
  exact Option.map_id'

theorem State.joinsLane.bay_of_unnamed {s u : State} {e : LaneEntry} (h : s.joinsLane u e) {b : BayNo}
    (hb : b ∉ namedBays e.allocations) : u.bay b = s.bay b := by
  rw [h.bays, funext (Build.pinnedWith_of_unnamed hb)]
  exact Option.map_id'

/-! ## Items in use -/

/-- An update of the item table leaves the records of the items that lines name (R2). -/
theorem State.itemsUpdate.findItem_eq {s : State} {v : List ItemRecord} (h : s.itemsUpdate v) (hn : s.linesNamed)
    {b : BayNo} {l : Line} (hl : l ∈ s.linesOf b) {c : ItemCode} (hc : c ∈ l.primary :: l.substitutes) :
    findItem v c = findItem s.items c := by
  obtain ⟨huse, hsome⟩ := hn.inUse hl hc
  obtain ⟨x, hx⟩ := Option.isSome_iff_exists.mp hsome
  rw [h.keepsUsed huse hx, hx]

theorem running_of_findItem {mode : Mode} {items items' : List ItemRecord} {bd : Build} {l : Line}
    (h : findItem items' l.primary = findItem items l.primary) : running mode items' bd l = running mode items bd l := by
  unfold running advertised Line.chilled isChilled
  rw [h]

/-! ## The accumulators -/

/-- In every bay the accumulators run exactly while the running condition holds (R48). -/
def State.allFollow (s : State) : Prop := ∀ b, s.waitsFollow b

/-- The evaluation of the bays that were touched restores what held. -/
theorem State.settledTo.allFollow {s u t : State} {bs : List BayNo} (h : u.settledTo t bs) (hmode : u.ctl.mode = s.ctl.mode)
    (hitems : u.items = s.items) (hother : ∀ b, b ∉ bs → u.bay b = s.bay b) (hs : s.allFollow) : t.allFollow := by
  intro b
  by_cases hb : b ∈ bs
  · exact h.follow b (.inl hb)
  · exact h.follow b (.inr (State.waitsFollow_of_same (hother b hb) hmode hitems (hs b)))

theorem allFollow_storeKeeps : StoreKeeps State.allFollow where
  settled h hs b := h.follow b (.inr (hs b))
  items {s v} hn h hs b := by
    intro bd hbd l hl
    have hfind := h.findItem_eq hn (State.mem_linesOf.mpr ⟨bd, hbd, hl⟩) (List.mem_cons_self ..)
    exact (hs b bd hbd l hl).trans (running_of_findItem hfind).symm
  emptied {s b bd} _ _ hs c := by
    intro bd' hbd'
    rw [s.bay_setBay] at hbd'
    split at hbd'
    · cases hbd'
    · exact hs c bd' hbd'
  opened {s b p} _ _ _ hs c := by
    refine (State.evalBays_bay c [b] (s.setBay b (some (s.newBuild p)))).2.2 ?_
    by_cases hc : c = b
    · exact .inl (List.mem_singleton.mpr hc)
    · refine .inr (State.waitsFollow_of_same (s := s) ?_ rfl rfl (hs c))
      rw [s.bay_setBay, if_neg hc]
  arrived hs := hs
  staled _ hs := hs
  left h k hs := k.allFollow (congrArg ModeControl.mode (h.frame .ctl (by simp))) (h.frame .items (by simp))
    (fun _ hb => h.bay_of_unnamed hb) hs
  joined h k hs := k.allFollow (congrArg ModeControl.mode (h.frame .ctl (by simp))) (h.frame .items (by simp))
    (fun _ hb => h.bay_of_unnamed hb) hs

/-! ## LOADING -/

/-- Every line names items that the table holds, and in LOADING every bay is EMPTY (R2, R22). -/
def State.namedAndLoaded (s : State) : Prop := s.linesNamed ∧ (s.ctl.mode = .loading → ∀ b, s.bay b = none)

theorem State.linesNamed_of_same {s t : State} (hitems : t.items = s.items) (hbays : t.bays = s.bays) (hs : s.linesNamed) :
    t.linesNamed := by
  intro b l hl
  rw [hitems]
  exact hs b l (by rwa [← State.linesOf_of_bays hbays])

theorem State.namedAndLoaded_of_same {s t : State} (hitems : t.items = s.items) (hbays : t.bays = s.bays)
    (hmode : t.ctl.mode = .loading → s.ctl.mode = .loading) (hs : s.namedAndLoaded) : t.namedAndLoaded := by
  obtain ⟨hn, hempty⟩ := hs
  have hbay (b : BayNo) : t.bay b = s.bay b := by rw [State.bay, State.bay, hbays]
  exact ⟨State.linesNamed_of_same hitems hbays hn, fun hl b => (hbay b).trans (hempty (hmode hl) b)⟩

theorem namedAndLoaded_opKeeps : OpKeeps State.namedAndLoaded where
  setItems h hs := ⟨h.linesNamed hs.1, hs.2⟩
  setBays {s v} h hs := by
    refine ⟨h.linesNamed hs.1, fun hl b => ?_⟩
    have hnone := hs.2 hl
    obtain hsame | ⟨bd, -, hbd, -⟩ | hempty | ⟨-, -, -, hm, -⟩ := h.bay b
    · exact hsame.trans (hnone b)
    · cases (hnone b).symm.trans hbd
    · exact hempty
    · exact absurd hl hm
  setPort _ hs := hs
  setDev _ hs := hs
  setDraws _ hs := hs
  setClock _ hs := hs
  writing _ _ hs := hs
  setMode m e _ _ hm hs := ⟨hs.1, fun hl => absurd hl hm⟩
  counted _ _ hs := hs
  marked _ _ _ _ hs := hs
  joined _ _ _ hs := hs
  emptied _ hs := hs
  seen _ hs := hs
  laneKept _ _ hs := hs
  laneJoined _ _ hs := hs
  mapped _ hs := hs
  put _ hs := hs
  decoded _ _ hs := hs
  readsCounted _ _ _ hs := hs
  delivered {s p sequence payload} _ _ _ _ _ hs := by
    have hframe := s.deliver_changedOnly p sequence payload
    have hctl : (s.deliver p sequence payload).ctl = s.ctl := hframe .ctl (by simp)
    exact State.namedAndLoaded_of_same (hframe .items (by simp)) (hframe .bays (by simp)) (fun h => hctl ▸ h) hs

/-! ## Steps -/

theorem State.accumulatorsSound_iff {s : State} : s.accumulatorsSound ↔ s.namedAndLoaded ∧ s.allFollow :=
  and_assoc.symm

/-- The end of the settings load finds every bay EMPTY (R22, R163). -/
theorem State.endLoad_accumulatorsSound {s : State} (r : Settings × LoadOutcome) (hs : s.accumulatorsSound) :
    (s.endLoad r).accumulatorsSound := by
  obtain h | ⟨-, hm, h⟩ := s.endLoad_cases r
  · rwa [h]
  · obtain ⟨hn, hempty, -⟩ := hs
    have hframe := s.endLoad_changedOnly r
    have hbays : (s.endLoad r).bays = s.bays := hframe .bays (by simp [loadBlocks])
    have hbay (b : BayNo) : (s.endLoad r).bay b = none := by
      rw [State.bay, hbays]
      exact hempty hm b
    refine ⟨fun b l hl => ?_, fun _ => hbay, fun b bd hbd => ?_⟩
    · rw [State.linesOf_of_empty (hbay b)] at hl
      cases hl
    · cases (hbay b).symm.trans hbd

theorem exec_namedAndLoaded {c : Instr} {s t : State} (h : exec c s = .next t) (hs : s.accumulatorsSound) :
    t.namedAndLoaded := by
  obtain ⟨hnamed, -⟩ := State.accumulatorsSound_iff.mp hs
  cases hc : startsOrSends c with
  | false => exact namedAndLoaded_opKeeps.exec hc h hnamed
  | true =>
    cases c, hc using startsOrSends_cases with
    | hardReset straps => cases h; exact (State.accumulatorsSound_iff.mp (State.accumulatorsSound_of_empty rfl)).1
    | restart straps tx =>
      cases h
      exact whileUp_keeps_of (State.restartRequest_keeps namedAndLoaded_opKeeps.toPort
        (fun _ _ => (State.accumulatorsSound_iff.mp (State.accumulatorsSound_of_empty rfl)).1) tx hnamed) hnamed
    | settingsLoad record =>
      cases h
      exact whileUp_keeps_of (State.accumulatorsSound_iff.mp (State.endLoad_accumulatorsSound _ hs)).1 hnamed
    | settingsLoadTimeout =>
      cases h
      exact whileUp_keeps_of (State.accumulatorsSound_iff.mp (State.endLoad_accumulatorsSound _ hs)).1 hnamed
    | _ =>
      have hframe := exec_changedOnly h
      have hctl : t.ctl = s.ctl := hframe .ctl (by simp [fieldsWritten])
      exact State.namedAndLoaded_of_same (hframe .items (by simp [fieldsWritten])) (hframe .bays (by simp [fieldsWritten]))
        (fun hl => hctl ▸ hl) hnamed

theorem exec_allFollow {c : Instr} {s t : State} (h : exec c s = .next t) (hs : s.accumulatorsSound) : t.allFollow := by
  obtain ⟨⟨hn, -⟩, hfollow⟩ := State.accumulatorsSound_iff.mp hs
  have hload (r : Settings × LoadOutcome) : (s.endLoad r).allFollow :=
    (State.accumulatorsSound_iff.mp (State.endLoad_accumulatorsSound r hs)).2
  cases c with
  | hardReset straps => cases h; exact (State.accumulatorsSound_iff.mp (State.accumulatorsSound_of_empty rfl)).2
  | restart straps tx =>
    cases h
    exact whileUp_keeps_of (State.restartRequest_keeps allFollow_storeKeeps.toPort
      (fun _ _ => (State.accumulatorsSound_iff.mp (State.accumulatorsSound_of_empty rfl)).2) tx hfollow) hfollow
  | settingsLoad record => cases h; exact whileUp_keeps_of (hload _) hfollow
  | settingsLoadTimeout => cases h; exact whileUp_keeps_of (hload _) hfollow
  | _ => exact allFollow_storeKeeps.exec h (by simp) (by simp) (by simp) (by simp) hn hfollow

/-- Settles O56: what spoils an accumulator's condition is followed by its evaluation, and the items behind it stay. -/
theorem stepKeepsAccumulatorsOnTheirCondition : Obligations.StepKeepsAccumulatorsOnTheirCondition := fun _ _ hs h =>
  step_keeps (P := State.accumulatorsSound) (fun _ _ hs => hs)
    (fun _ _ _ he hu => State.accumulatorsSound_iff.mpr ⟨exec_namedAndLoaded he hu, exec_allFollow he hu⟩) h hs

end Sys2Proof.Machine

/-! PROOF. The lane queue in order (R118), and what the grants of its entries add up to (R9). -/

namespace Sys2Proof.Machine

/-! ## The queue in order -/

/-- No INBOUND entry stands before an AT_BENCH entry (R118). -/
def inLaneOrder (q : List LaneEntry) : Prop := q.Pairwise fun x y => y.isAtBench = true → x.isAtBench = true

/-- In that order the queue is a run of AT_BENCH entries followed by a run of INBOUND entries. -/
theorem inLaneOrder_iff : ∀ {q : List LaneEntry}, inLaneOrder q ↔
    ∃ k, (∀ e ∈ q.take k, e.isAtBench = true) ∧ ∀ e ∈ q.drop k, e.isAtBench = false
  | [] => iff_of_true List.Pairwise.nil ⟨0, by simp, by simp⟩
  | e :: es => by
    rw [inLaneOrder, List.pairwise_cons]
    constructor
    · rintro ⟨hhead, htail⟩
      cases he : e.isAtBench with
      | true =>
        obtain ⟨k, hbench, hinbound⟩ := inLaneOrder_iff.mp htail
        refine ⟨k + 1, fun x hx => ?_, hinbound⟩
        rw [List.take_succ_cons, List.mem_cons] at hx
        exact hx.elim (fun h => h ▸ he) (hbench x)
      | false =>
        refine ⟨0, by simp, fun x hx => ?_⟩
        obtain rfl | hx := List.mem_cons.mp hx
        · exact he
        · rw [← Bool.not_eq_true]
          intro hat
          cases he.symm.trans (hhead x hx hat)
    · rintro ⟨k, hbench, hinbound⟩
      cases k with
      | zero =>
        have hnone (x : LaneEntry) (hx : x ∈ e :: es) : x.isAtBench = false := hinbound x hx
        refine ⟨fun x hx hat => ?_, inLaneOrder_iff.mpr ⟨0, by simp, fun x hx => hnone x (List.mem_cons_of_mem _ hx)⟩⟩
        cases (hnone x (List.mem_cons_of_mem _ hx)).symm.trans hat
      | succ k =>
        refine ⟨fun _ _ _ => hbench e (by simp), inLaneOrder_iff.mpr ⟨k, fun x hx => hbench x ?_, hinbound⟩⟩
        rw [List.take_succ_cons]
        exact List.mem_cons_of_mem _ hx

/-- An arrival is matched to the oldest INBOUND entry, so the order stays (R121). -/
theorem inLaneOrder_matchArrival (now : Nat) : ∀ {q : List LaneEntry}, inLaneOrder q → inLaneOrder (matchArrival now q)
  | [], _ => List.Pairwise.nil
  | e :: es, h => by
    obtain ⟨-, htail⟩ := List.pairwise_cons.mp h
    unfold matchArrival
    split
    · exact List.pairwise_cons.mpr ⟨fun _ _ _ => rfl, htail⟩
    · next hin =>
      have he : e.isAtBench = true := by simpa [LaneEntry.isInbound] using hin
      exact List.pairwise_cons.mpr ⟨fun _ _ _ => he, inLaneOrder_matchArrival now htail⟩

/-- What an arrival does not change of an entry it does not change of the queue. -/
theorem map_matchArrival {α : Type} (f : LaneEntry → α) (now : Nat) (hf : ∀ e : LaneEntry, f (e.arrived now) = f e) :
    ∀ q : List LaneEntry, (matchArrival now q).map f = q.map f
  | [] => rfl
  | e :: es => by
    unfold matchArrival
    split
    · rw [List.map_cons, List.map_cons, hf]
    · rw [List.map_cons, List.map_cons, map_matchArrival f now hf es]

/-! ## Grants -/

/-- The entry that leaves the lane takes its part of a sum over the queue with it (R124). -/
theorem sum_laneWithout {q : List LaneEntry} (hnodup : (q.map (·.tote)).Nodup) {e : LaneEntry} (he : e ∈ q)
    (f : LaneEntry → Nat) : (q.map f).sum = f e + ((q.eraseP fun x => x.tote == e.tote).map f).sum := by
  obtain ⟨y, before, after, -, hy, hq, herase⟩ :=
    List.exists_of_eraseP (p := fun x : LaneEntry => x.tote == e.tote) he (beq_self_eq_true e.tote)
  have hmem : y ∈ q := by rw [hq]; simp
  have hsame : y = e := List.inj_on_of_nodup_map hnodup hmem he (beq_iff_eq.mp hy)
  rw [herase, hq, hsame]
  simp only [List.map_append, List.map_cons, List.sum_append, List.sum_cons]
  omega

theorem State.grantedTo_eq (s : State) (b : BayNo) (i : Nat) :
    s.grantedTo b i = (s.lane.queue.map fun e => grantedOn b i e.allocations).sum := rfl

theorem named_of_grantedOn {as : List Allocation} {b : BayNo} {i : Nat} (h : grantedOn b i as ≠ 0) :
    ∃ a ∈ as, a.bay = b ∧ a.line = i := by
  by_contra hno
  refine h ?_
  have hnone : (as.filter fun a => a.bay == b && a.line == i) = [] := by
    rw [List.filter_eq_nil_iff]
    intro a ha hnames
    rw [Bool.and_eq_true, beq_iff_eq, beq_iff_eq] at hnames
    exact hno ⟨a, ha, hnames⟩
  rw [grantedOn, hnone]
  rfl

/-- Where no two allocations name one line, a line is granted what one of them grants it, or nothing. -/
theorem grantedOn_of_places {b : BayNo} {i : Nat} : ∀ {as : List Allocation},
    (as.map fun a => (a.bay, a.line)).Nodup → grantedOn b i as = 0
      ∨ ∃ a ∈ as, a.bay = b ∧ a.line = i ∧ grantedOn b i as = a.granted
  | [], _ => .inl rfl
  | a :: as, h => by
    obtain ⟨hnew, hrest⟩ := List.nodup_cons.mp h
    rw [grantedOn_cons]
    by_cases hnames : b = a.bay ∧ i = a.line
    · have hnone : grantedOn b i as = 0 := by
        by_contra hpos
        obtain ⟨x, hx, hbay, hline⟩ := named_of_grantedOn hpos
        refine hnew (List.mem_map.mpr ⟨x, hx, ?_⟩)
        rw [hbay, hline, hnames.1, hnames.2]
      exact .inr ⟨a, List.mem_cons_self, hnames.1.symm, hnames.2.symm, by rw [if_pos hnames, hnone, Nat.add_zero]⟩
    · rw [if_neg hnames, Nat.zero_add]
      exact (grantedOn_of_places hrest).imp_right fun ⟨x, hx, hr⟩ => ⟨x, List.mem_cons_of_mem _ hx, hr⟩

/-- No more is taken for a line than was granted to it (R128). -/
theorem countOn_le_grantedOn {b : BayNo} {i : Nat} : ∀ {xs : List (Allocation × Nat)}, (∀ x ∈ xs, x.2 ≤ x.1.granted) →
    countOn b i xs ≤ grantedOn b i (xs.map (·.1))
  | [], _ => Nat.le_refl 0
  | x :: xs, h => by
    have hrest := countOn_le_grantedOn (b := b) (i := i) fun y hy => h y (List.mem_cons_of_mem _ hy)
    have hhead := h x List.mem_cons_self
    rw [countOn_cons, List.map_cons, grantedOn_cons]
    split
    · omega
    · omega

end Sys2Proof.Machine

/-! PROOF. Every step keeps every build within its floor and ceiling (R8, R9, R18, R118). -/

namespace Sys2Proof.Machine

/-! ## The invariant, build by build -/

/-- No line of the build has more placed and pinned than ordered, and with its work done every line is complete (R8,
R26). -/
def Build.counted (bd : Build) : Prop :=
  (∀ l ∈ bd.lines, l.placed + l.pinned ≤ l.ordered) ∧ (bd.work = .ready → ∀ l ∈ bd.lines, l.complete = true)

/-- Every build is counted and keeps its promise (R8, R18, R26). -/
def State.buildsKept (s : State) : Prop := ∀ b bd, s.bay b = some bd → bd.counted ∧ bd.promised s.items

/-- The lane, the pins and the builds agree (R8, R9, R18, R118). -/
structure State.storeKept (s : State) : Prop where
  lane : s.laneSound
  pins : s.pinsMatchLane
  builds : s.buildsKept

theorem State.storeSound_iff {s : State} : s.storeSound ↔ s.linesNamed ∧ s.storeKept := by
  constructor
  · rintro ⟨hlane, hlines, hpins, hnamed, hready, hpromises⟩
    refine ⟨hnamed, hlane, hpins, fun b bd hbd => ⟨⟨fun l hl => ?_, hready b bd hbd⟩, hpromises b bd hbd⟩⟩
    exact hlines b l (State.mem_linesOf.mpr ⟨bd, hbd, hl⟩)
  · rintro ⟨hnamed, hlane, hpins, hbuilds⟩
    refine ⟨hlane, fun b l hl => ?_, hpins, hnamed, fun b bd hbd => (hbuilds b bd hbd).1.2, fun b bd hbd =>
      (hbuilds b bd hbd).2⟩
    obtain ⟨bd, hbd, hl⟩ := State.mem_linesOf.mp hl
    exact (hbuilds b bd hbd).1.1 l hl

theorem State.laneSound_iff {s : State} : s.laneSound ↔ s.lane.queue.length ≤ s.loader.active.laneCapacity
    ∧ (s.lane.queue.map (·.tote)).Nodup ∧ inLaneOrder s.lane.queue ∧ (s.ctl.mode = .loading → s.lane.queue = []) := by
  rw [State.laneSound, inLaneOrder_iff]

theorem State.laneSound_of_same {s t : State} (hqueue : t.lane.queue = s.lane.queue)
    (hactive : t.loader.active = s.loader.active) (hloading : t.ctl.mode = .loading → s.ctl.mode = .loading)
    (hs : s.laneSound) : t.laneSound := by
  obtain ⟨hroom, hnodup, horder, hempty⟩ := hs
  rw [State.laneSound, hqueue, hactive]
  exact ⟨hroom, hnodup, horder, fun h => hempty (hloading h)⟩

/-! ## What leaves the counts alone -/

theorem Build.counted_of_ledger {bd bd' : Build} (h : bd'.ledger = bd.ledger) (hc : bd.counted) : bd'.counted := by
  obtain ⟨hwork, hlines⟩ := Prod.ext_iff.mp h
  obtain ⟨hcounts, hready⟩ := hc
  have hline (l' : Line) (hl' : l' ∈ bd'.lines) : ∃ l ∈ bd.lines, l.stock = l'.stock := by
    have hmem : l'.stock ∈ bd.lines.map Line.stock := by
      rw [← show bd'.lines.map Line.stock = bd.lines.map Line.stock from hlines]
      exact List.mem_map_of_mem hl'
    exact List.mem_map.mp hmem
  refine ⟨fun l' hl' => ?_, fun hr l' hl' => ?_⟩
  · obtain ⟨l, hl, hstock⟩ := hline l' hl'
    have hcount : l.stock.placed + l.stock.pinned ≤ l.stock.ordered := hcounts l hl
    rw [hstock] at hcount
    exact hcount
  · obtain ⟨l, hl, hstock⟩ := hline l' hl'
    have hcomplete : l.stock.complete = true := hready ((show bd'.work = bd.work from hwork) ▸ hr) l hl
    rw [hstock] at hcomplete
    exact hcomplete

theorem State.pinnedOn_of_ledger {s t : State} (h : s.sameLedger t) (b : BayNo) (i : Nat) :
    t.pinnedOn b i = s.pinnedOn b i := by
  have hstock (u : State) : u.pinnedOn b i
      = ((((((u.bay b).map Build.ledger).map Prod.snd).getD [])[i]?).map (·.pinned)).getD 0 := by
    rw [State.pinnedOn, State.linesOf]
    cases u.bay b with
    | none => rfl
    | some bd =>
      simp only [Option.map_some, Option.getD_some, Build.ledger, List.getElem?_map, Option.map_map]
      rfl
  rw [hstock t, hstock s, h b]

theorem State.settledTo.storeKept {s t : State} {bs : List BayNo} (h : s.settledTo t bs) (hs : s.storeKept) :
    t.storeKept := by
  refine ⟨State.laneSound_of_same h.queue h.active h.loading hs.lane, fun b i => ?_, fun b bd' hbd' => ?_⟩
  · rw [State.pinnedOn_of_ledger h.ledger, State.grantedTo, h.queue]
    exact hs.pins b i
  · have hledger := h.ledger b
    rw [hbd'] at hledger
    cases hbd : s.bay b with
    | none =>
      rw [hbd] at hledger
      cases hledger
    | some bd =>
      rw [hbd] at hledger
      refine ⟨Build.counted_of_ledger (Option.some.inj hledger) (hs.builds b bd hbd).1, ?_⟩
      exact h.promises (fun c x hx => (hs.builds c x hx).2) b bd' hbd'

/-! ## The item table -/

theorem Line.activeItem_mem {l : Line} (h : l.position ≤ l.substitutes.length) :
    l.activeItem ∈ l.primary :: l.substitutes := by
  unfold Line.activeItem Line.itemAt
  split
  · exact List.mem_cons_self
  · have hin : l.position - 1 < l.substitutes.length := by omega
    rw [List.getD_eq_getElem _ _ hin]
    exact List.mem_cons_of_mem _ (List.getElem_mem hin)

/-- A build's projection stands as long as the records of its lines' items do (R2, R17). -/
theorem projected_of_findItem {items items' : List ItemRecord} {lines : List Line}
    (h : ∀ l ∈ lines, findItem items' l.activeItem = findItem items l.activeItem) :
    projectedValue items' lines = projectedValue items lines ∧ projectedWeight items' lines = projectedWeight items lines := by
  refine ⟨congrArg List.sum (List.map_congr_left fun l hl => ?_), congrArg List.sum (List.map_congr_left fun l hl => ?_)⟩
  · rw [Line.valueTerm, Line.valueTerm, unitValue, unitValue, h l hl]
  · rw [Line.weightTerm, Line.weightTerm, unitWeight, unitWeight, h l hl]

theorem State.itemsUpdate.storeKept {s : State} {v : List ItemRecord} (h : s.itemsUpdate v) (hn : s.linesNamed)
    (hs : s.storeKept) : (s.setItems v).storeKept := by
  refine ⟨hs.lane, hs.pins, fun b bd hbd => ?_⟩
  obtain ⟨hcounted, hfloor, hceiling⟩ := hs.builds b bd hbd
  obtain ⟨hvalue, hweight⟩ := projected_of_findItem (items := s.items) (items' := v) (lines := bd.lines) fun l hl =>
    have hmem : l ∈ s.linesOf b := State.mem_linesOf.mpr ⟨bd, hbd, hl⟩
    h.findItem_eq hn hmem (Line.activeItem_mem (hn b l hmem).1)
  refine ⟨hcounted, ?_⟩
  rw [Build.promised]
  change bd.floor ≤ projectedValue v bd.lines ∧ projectedWeight v bd.lines ≤ bd.ceiling
  rw [hvalue, hweight]
  exact ⟨hfloor, hceiling⟩

/-! ## Bays emptied and opened -/

/-- A bay that is cancelled or sealed has no units pinned (R20, R21). -/
theorem State.pinnedOn_of_closing {s : State} {b : BayNo} {bd : Build} (hbd : s.bay b = some bd) (hc : bd.counted)
    (h : bd.hasPins = false ∨ bd.isReady = true) (i : Nat) : s.pinnedOn b i = 0 := by
  rw [State.pinnedOn, State.linesOf_of_bay hbd]
  cases hl : bd.lines[i]? with
  | none => rfl
  | some l =>
    have hmem : l ∈ bd.lines := List.mem_of_getElem? hl
    show l.pinned = 0
    obtain hpins | hready := h
    · by_contra hpos
      have hany : bd.hasPins = true := Build.hasPins_iff.mpr ⟨l, hmem, Nat.pos_of_ne_zero hpos⟩
      cases hpins.symm.trans hany
    · have hcount := hc.1 l hmem
      have hcomplete := hc.2 (Build.isReady_iff.mp hready).1 l hmem
      rw [Line.complete, beq_iff_eq, Line.remaining] at hcomplete
      omega

/-- Where the bay had nothing pinned, a record without pins in it leaves the pins as they are. -/
theorem State.pinnedOn_setBay {s : State} {b : BayNo} {x : Option Build} (hold : ∀ i, s.pinnedOn b i = 0)
    (hnew : ∀ i, (s.setBay b x).pinnedOn b i = 0) (c : BayNo) (i : Nat) :
    (s.setBay b x).pinnedOn c i = s.pinnedOn c i := by
  by_cases hc : c = b
  · rw [hc, hold, hnew]
  · rw [State.pinnedOn, State.linesOf, s.bay_setBay, if_neg hc]
    rfl

theorem State.emptied_storeKept {s : State} {b : BayNo} {bd : Build} (hbd : s.bay b = some bd)
    (h : bd.hasPins = false ∨ bd.isReady = true) (hs : s.storeKept) : (s.setBay b none).storeKept := by
  have hold := State.pinnedOn_of_closing hbd (hs.builds b bd hbd).1 h
  have hnew (i : Nat) : (s.setBay b none).pinnedOn b i = 0 := by
    rw [State.pinnedOn, State.linesOf, s.bay_setBay, if_pos rfl]
    rfl
  refine ⟨hs.lane, fun c i => (State.pinnedOn_setBay hold hnew c i).trans (hs.pins c i), fun c bd' hbd' => ?_⟩
  rw [s.bay_setBay] at hbd'
  split at hbd'
  · cases hbd'
  · exact hs.builds c bd' hbd'

theorem State.newBuild_counted (s : State) (p : BuildParams) : (s.newBuild p).counted := by
  have hline (l : Line) (hl : l ∈ (s.newBuild p).lines) : l.placed = 0 ∧ l.pinned = 0 := by
    obtain ⟨e, -, rfl⟩ := List.mem_map.mp hl
    exact ⟨rfl, rfl⟩
  refine ⟨fun l hl => ?_, fun hr => ?_⟩
  · obtain ⟨hplaced, hpinned⟩ := hline l hl
    omega
  · have hwork : (s.newBuild p).work ≠ .ready := by
      unfold State.newBuild
      dsimp only
      split <;> decide
    exact absurd hr hwork

theorem State.opened_storeKept {s : State} {b : BayNo} {p : BuildParams} (hb : s.bay b = none)
    (hp : s.checkBuild p = none) (hs : s.storeKept) : (s.setBay b (some (s.newBuild p))).storeKept := by
  have hpass := State.checkBuild_eq_none_iff.mp hp
  have hold (i : Nat) : s.pinnedOn b i = 0 := by
    rw [State.pinnedOn, State.linesOf_of_empty hb]
    rfl
  have hnew (i : Nat) : (s.setBay b (some (s.newBuild p))).pinnedOn b i = 0 := by
    rw [State.pinnedOn, State.linesOf, s.bay_setBay, if_pos rfl]
    show (((s.newBuild p).lines[i]?).map (·.pinned)).getD 0 = 0
    rw [show (s.newBuild p).lines = p.lines.map LineParams.line from rfl, List.getElem?_map]
    cases p.lines[i]? <;> rfl
  refine ⟨hs.lane, fun c i => (State.pinnedOn_setBay hold hnew c i).trans (hs.pins c i), fun c bd' hbd' => ?_⟩
  rw [s.bay_setBay] at hbd'
  split at hbd'
  · cases hbd'
    exact ⟨s.newBuild_counted p, hpass.floor, hpass.ceiling⟩
  · exact hs.builds c bd' hbd'

/-- The evaluation of accumulators leaves the store (R48). -/
theorem State.evalBays_storeKept {s : State} (bs : List BayNo) (hs : s.storeKept) : (s.evalBays bs).storeKept := by
  have hframe := s.evalBays_changedOnly bs
  have hctl : (s.evalBays bs).ctl = s.ctl := hframe .ctl (by simp)
  have hlane : (s.evalBays bs).lane = s.lane := hframe .lane (by simp)
  have hstock : s.sameStock (s.evalBays bs) := fun b => (State.evalBays_bay b bs s).2.1.symm
  refine ⟨State.laneSound_of_same (congrArg Lane.queue hlane) (congrArg Loader.active (hframe .loader (by simp)))
    (fun h => hctl ▸ h) hs.lane, fun b i => ?_, fun b bd' hbd' => ?_⟩
  · rw [State.pinnedOn_of_ledger hstock.sameLedger, State.grantedTo, hlane]
    exact hs.pins b i
  · have hledger := hstock.sameLedger b
    rw [hbd'] at hledger
    obtain ⟨bd, hbd, heq⟩ := Option.map_eq_some_iff.mp hledger.symm
    exact ⟨Build.counted_of_ledger heq.symm (hs.builds b bd hbd).1,
      State.evalBays_promisesKept bs (fun c x hx => (hs.builds c x hx).2) b bd' hbd'⟩

/-! ## Lines counted anew -/

/-- A line after units are pinned, unpinned or placed: it projects the same, stays within what was ordered, and stays
complete (R8 to R10, R17). -/
structure Line.recounted (items : List ItemRecord) (l l' : Line) : Prop where
  counted : l'.placed + l'.pinned ≤ l'.ordered
  complete : l.complete = true → l'.complete = true
  value : l'.valueTerm items = l.valueTerm items
  weight : l'.weightTerm items = l.weightTerm items

/-- From `s` to `u` every line is counted anew; a bay enters READY with its lines complete. -/
structure State.recountedTo (s u : State) (g : BayNo → Build → Build) (h : BayNo → Nat → Line → Line) : Prop where
  items : u.items = s.items
  bays : ∀ b, u.bay b = (s.bay b).map (g b)
  floor : ∀ b bd, (g b bd).floor = bd.floor
  ceiling : ∀ b bd, (g b bd).ceiling = bd.ceiling
  lines : ∀ b bd i, (g b bd).lines[i]? = (bd.lines[i]?).map (h b i)
  line : ∀ (b : BayNo) (i : Nat) (l : Line), (s.linesOf b)[i]? = some l → l.recounted s.items (h b i l)
  ready : ∀ b bd, (g b bd).work = .ready → bd.work = .ready ∨ ∀ l ∈ (g b bd).lines, l.complete = true

section
variable {s u : State} {g : BayNo → Build → Build} {h : BayNo → Nat → Line → Line} (k : s.recountedTo u g h)
include k

theorem State.recountedTo.linesOf (b : BayNo) (i : Nat) : (u.linesOf b)[i]? = ((s.linesOf b)[i]?).map (h b i) := by
  rw [State.linesOf, State.linesOf, k.bays]
  cases s.bay b with
  | none => rfl
  | some bd => exact k.lines b bd i

theorem State.recountedTo.pinnedOn (b : BayNo) (i : Nat) :
    u.pinnedOn b i = (((s.linesOf b)[i]?).map fun l => (h b i l).pinned).getD 0 := by
  rw [State.pinnedOn, k.linesOf, Option.map_map]
  rfl

theorem State.recountedTo.terms {b : BayNo} {bd : Build} (hbd : s.bay b = some bd) {term : Line → Nat}
    (hterm : ∀ i l, (s.linesOf b)[i]? = some l → term (h b i l) = term l) :
    ((g b bd).lines.map term).sum = (bd.lines.map term).sum := by
  refine congrArg List.sum (List.ext_getElem? fun i => ?_)
  rw [List.getElem?_map, List.getElem?_map, k.lines, Option.map_map]
  cases hl : bd.lines[i]? with
  | none => rfl
  | some l => exact congrArg some (hterm i l (by rw [State.linesOf_of_bay hbd]; exact hl))

theorem State.recountedTo.buildsKept (hs : s.buildsKept) : u.buildsKept := by
  intro b bd' hbd'
  rw [k.bays, Option.map_eq_some_iff] at hbd'
  obtain ⟨bd, hbd, rfl⟩ := hbd'
  obtain ⟨⟨-, hready⟩, hfloor, hceiling⟩ := hs b bd hbd
  have hline {l' : Line} (hl' : l' ∈ (g b bd).lines) : ∃ l ∈ bd.lines, l.recounted s.items l' := by
    obtain ⟨i, hi⟩ := List.mem_iff_getElem?.mp hl'
    rw [k.lines, Option.map_eq_some_iff] at hi
    obtain ⟨l, hl, rfl⟩ := hi
    exact ⟨l, List.mem_of_getElem? hl, k.line b i l (by rw [State.linesOf_of_bay hbd]; exact hl)⟩
  have hvalue : projectedValue s.items (g b bd).lines = projectedValue s.items bd.lines :=
    k.terms hbd fun i l hl => (k.line b i l hl).value
  have hweight : projectedWeight s.items (g b bd).lines = projectedWeight s.items bd.lines :=
    k.terms hbd fun i l hl => (k.line b i l hl).weight
  refine ⟨⟨fun l' hl' => ?_, fun hr l' hl' => ?_⟩, ?_⟩
  · obtain ⟨l, -, hrecounted⟩ := hline hl'
    exact hrecounted.counted
  · obtain hwork | hall := k.ready b bd hr
    · obtain ⟨l, hl, hrecounted⟩ := hline hl'
      exact hrecounted.complete (hready hwork l hl)
    · exact hall l' hl'
  · rw [Build.promised, k.items, k.floor, k.ceiling, hvalue, hweight]
    exact ⟨hfloor, hceiling⟩

end

theorem Line.recounted_pinned {items : List ItemRecord} {l : Line} {n : Nat} (h : l.placed + n ≤ l.ordered) :
    l.recounted items { l with pinned := n } := ⟨h, id, rfl, rfl⟩

/-- Units of the pinned ones are placed: the projection counts them as it did (R10, R17). -/
theorem Line.recounted_picked {items : List ItemRecord} {now taken granted : Nat} {l : Line}
    (hcount : l.placed + l.pinned ≤ l.ordered) (htaken : taken ≤ granted) (hgranted : granted ≤ l.pinned) :
    l.recounted items (l.picked items now taken granted) := by
  have hsplit (unit : Nat) : taken * unit + (l.ordered - (l.placed + taken)) * unit = (l.ordered - l.placed) * unit := by
    rw [← Nat.add_mul]
    congr 1
    omega
  refine ⟨?_, fun hc => ?_, ?_, ?_⟩
  · show l.placed + taken + (l.pinned - granted) ≤ l.ordered
    omega
  · rw [Line.complete, beq_iff_eq, Line.remaining] at hc ⊢
    show l.ordered - (l.placed + taken) = 0
    omega
  · show l.placedValue + taken * unitValue items l.activeItem
      + (l.ordered - (l.placed + taken)) * unitValue items l.activeItem = _
    rw [Nat.add_assoc, hsplit]
    rfl
  · show l.placedWeight + taken * unitWeight items l.activeItem
      + (l.ordered - (l.placed + taken)) * unitWeight items l.activeItem = _
    rw [Nat.add_assoc, hsplit]
    rfl

/-! ## The lane -/

section
variable {s u : State} {e : LaneEntry}

theorem State.storeKept.counted (hs : s.storeKept) {b : BayNo} {i : Nat} {l : Line} (hl : (s.linesOf b)[i]? = some l) :
    l.placed + l.pinned ≤ l.ordered ∧ l.pinned = s.grantedTo b i := by
  obtain ⟨bd, hbd, hmem⟩ := State.mem_linesOf.mp (List.mem_of_getElem? hl)
  refine ⟨(hs.builds b bd hbd).1.1 l hmem, ?_⟩
  rw [← hs.pins b i, State.pinnedOn, hl]
  rfl

/-- What a line is granted by an entry of the lane is pinned on it (R9). -/
theorem State.storeKept.grantedOn_le (hs : s.storeKept) (he : e ∈ s.lane.queue) {b : BayNo} {i : Nat} {l : Line}
    (hl : (s.linesOf b)[i]? = some l) : grantedOn b i e.allocations ≤ l.pinned := by
  obtain ⟨-, hnodup, -⟩ := hs.lane
  have hsum := sum_laneWithout hnodup he fun x => grantedOn b i x.allocations
  rw [(hs.counted hl).2, State.grantedTo_eq]
  omega

theorem completedWork_ready {items : List ItemRecord} {bd : Build} (h : completedWork items bd = .ready) :
    bd.work = .ready ∨ ∀ l ∈ bd.lines, l.complete = true := by
  unfold completedWork at h
  split at h
  · split at h
    · split at h
      · next hall => exact .inr (List.all_eq_true.mp hall)
      · cases h
    · cases h
  · split at h
    · next hall => exact .inr (List.all_eq_true.mp hall)
    · cases h
  · next hwork => exact .inl hwork

theorem State.unpinned_recountedTo (hs : s.storeKept) (hitems : u.items = s.items)
    (hbays : ∀ b, u.bay b = (s.bay b).map (Build.unpinned e.allocations b)) :
    s.recountedTo u (Build.unpinned e.allocations)
      fun b i l => { l with pinned := l.pinned - grantedOn b i e.allocations } where
  items := hitems
  bays := hbays
  floor _ _ := rfl
  ceiling _ _ := rfl
  lines b bd i := Build.mapLines_getElem? (fun i l => { l with pinned := l.pinned - grantedOn b i e.allocations }) bd i
  line b i l hl := by
    have hcount := (hs.counted hl).1
    exact Line.recounted_pinned (by omega)
  ready _ _ h := .inl h

theorem State.picked_recountedTo {taken : List Nat} (hs : s.storeKept) (he : e ∈ s.lane.queue)
    (hfits : takenFits e taken = true) (hitems : u.items = s.items)
    (hbays : ∀ b, u.bay b = (s.bay b).map (s.pickedBuild (e.allocations.zip taken) b)) :
    s.recountedTo u (s.pickedBuild (e.allocations.zip taken)) (placedLine s (e.allocations.zip taken)) where
  items := hitems
  bays := hbays
  floor _ _ := rfl
  ceiling _ _ := rfl
  lines b bd i := s.pickedBuild_line _ b bd i
  line b i l hl := by
    simp only [takenFits, Bool.and_eq_true, beq_iff_eq, List.all_eq_true, decide_eq_true_eq] at hfits
    obtain ⟨hlen, hle⟩ := hfits
    have hmap : (e.allocations.zip taken).map (·.1) = e.allocations := List.map_fst_zip (by omega)
    refine Line.recounted_picked (hs.counted hl).1 (countOn_le_grantedOn hle) ?_
    rw [hmap]
    exact hs.grantedOn_le he hl
  ready b bd h := by
    by_cases htouched : ∃ x ∈ e.allocations.zip taken, x.1.bay = b
    · rw [s.pickedBuild_work _ b bd htouched] at h
      exact completedWork_ready h
    · rw [s.pickedBuild_of_untouched _ b bd htouched] at h
      exact .inl h

theorem State.leavesLane.laneSound {g : BayNo → Build → Build} (h : s.leavesLane u e g) (hs : s.laneSound) :
    u.laneSound := by
  obtain ⟨hroom, hnodup, horder, hempty⟩ := State.laneSound_iff.mp hs
  have hctl : u.ctl = s.ctl := h.frame .ctl (by simp)
  have hloader : u.loader = s.loader := h.frame .loader (by simp)
  have hsub : (s.laneWithout e.tote).Sublist s.lane.queue := List.eraseP_sublist
  rw [State.laneSound_iff, h.queue, hctl, hloader]
  refine ⟨hsub.length_le.trans hroom, hnodup.sublist (hsub.map _), horder.sublist hsub, fun hl => ?_⟩
  exact List.sublist_nil.mp ((hempty hl) ▸ hsub)

/-- A departure takes the entry's grants from the queue and from the pins alike (R9, R124). -/
theorem State.leavesLane.storeKept {g : BayNo → Build → Build} (h : s.leavesLane u e g) (hs : s.storeKept) :
    u.storeKept := by
  have hitems : u.items = s.items := h.frame .items (by simp)
  have hnodup := (State.laneSound_iff.mp hs.lane).2.1
  have hgranted (b : BayNo) (i : Nat) : s.grantedTo b i = grantedOn b i e.allocations + u.grantedTo b i := by
    rw [State.grantedTo_eq, State.grantedTo_eq, h.queue]
    exact sum_laneWithout hnodup h.mem _
  have hpins {k : BayNo → Nat → Line → Line} (hr : s.recountedTo u g k)
      (hk : ∀ b i l, (k b i l).pinned = l.pinned - grantedOn b i e.allocations) : u.pinsMatchLane := by
    intro b i
    have hold := hs.pins b i
    rw [hgranted, State.pinnedOn] at hold
    rw [hr.pinnedOn]
    cases hl : (s.linesOf b)[i]? with
    | none =>
      rw [hl] at hold
      simp only [Option.map_none, Option.getD_none] at hold ⊢
      omega
    | some l =>
      rw [hl] at hold
      simp only [Option.map_some, Option.getD_some, hk] at hold ⊢
      omega
  obtain hunpinned | ⟨taken, hfits, hpicked⟩ := h.units
  · subst hunpinned
    have hr := State.unpinned_recountedTo hs hitems h.bays
    exact ⟨h.laneSound hs.lane, hpins hr fun _ _ _ => rfl, hr.buildsKept hs.builds⟩
  · subst hpicked
    have hr := State.picked_recountedTo hs h.mem hfits hitems h.bays
    refine ⟨h.laneSound hs.lane, hpins hr fun b i l => ?_, hr.buildsKept hs.builds⟩
    have hlen : taken.length = e.allocations.length := by
      rw [takenFits, Bool.and_eq_true, beq_iff_eq] at hfits
      exact hfits.1
    show l.pinned - grantedOn b i ((e.allocations.zip taken).map (·.1)) = _
    rw [List.map_fst_zip (by omega)]

theorem State.joinsLane.laneSound (h : s.joinsLane u e) (hs : s.laneSound) : u.laneSound := by
  obtain ⟨hroom, hnodup, horder, -⟩ := State.laneSound_iff.mp hs
  have hctl : u.ctl = s.ctl := h.frame .ctl (by simp)
  have hloader : u.loader = s.loader := h.frame .loader (by simp)
  rw [State.laneSound_iff, h.queue, hctl, hloader]
  refine ⟨?_, ?_, ?_, fun hl => ?_⟩
  · rw [List.length_append, List.length_singleton]
    exact h.room
  · rw [List.map_append, List.nodup_append]
    refine ⟨hnodup, List.nodup_singleton _, fun x hx y hy => ?_⟩
    obtain ⟨z, hz, rfl⟩ := List.mem_map.mp hx
    rw [List.map_singleton, List.mem_singleton] at hy
    rw [hy]
    exact h.new z hz
  · refine List.pairwise_append.mpr ⟨horder, List.pairwise_singleton _ _, fun x _ y hy hat => ?_⟩
    obtain rfl := List.mem_singleton.mp hy
    have hin : y.isAtBench = false := by
      rw [← Bool.not_eq_true, LaneEntry.isAtBench_iff]
      exact fun hne => hne h.inbound
    cases hin.symm.trans hat
  · obtain hm | hm := h.mode
    · cases hm.symm.trans hl
    · cases hm.symm.trans hl

/-- A divert adds the entry's grants to the queue and to the pins alike (R9, R116). -/
theorem State.joinsLane.storeKept (h : s.joinsLane u e) (hs : s.storeKept) : u.storeKept := by
  have hr : s.recountedTo u (Build.pinnedWith e.allocations)
      fun b i l => { l with pinned := l.pinned + grantedOn b i e.allocations } :=
    { items := h.frame .items (by simp)
      bays := h.bays
      floor := fun _ _ => rfl
      ceiling := fun _ _ => rfl
      lines := fun b bd i =>
        Build.mapLines_getElem? (fun i l => { l with pinned := l.pinned + grantedOn b i e.allocations }) bd i
      line := fun b i l hl => by
        have hcount := (hs.counted hl).1
        refine Line.recounted_pinned ?_
        obtain hnone | ⟨a, ha, rfl, rfl, hsum⟩ := grantedOn_of_places (b := b) (i := i) h.places
        · omega
        · obtain ⟨x, hx, hneeded⟩ := h.needed a ha
          obtain rfl := Option.some.inj (hx.symm.trans hl)
          rw [Line.needed] at hneeded
          omega
      ready := fun _ _ hw => .inl hw }
  refine ⟨h.laneSound hs.lane, fun b i => ?_, hr.buildsKept hs.builds⟩
  have hold := hs.pins b i
  have hsum : u.grantedTo b i = s.grantedTo b i + grantedOn b i e.allocations := by
    rw [State.grantedTo_eq, State.grantedTo_eq, h.queue, List.map_append, List.sum_append]
    simp
  rw [State.pinnedOn] at hold
  rw [hr.pinnedOn, hsum, ← hold]
  cases hl : (s.linesOf b)[i]? with
  | none =>
    have hnone : grantedOn b i e.allocations = 0 := by
      by_contra hpos
      obtain ⟨a, ha, rfl, rfl⟩ := named_of_grantedOn hpos
      obtain ⟨x, hx, -⟩ := h.needed a ha
      cases hl.symm.trans hx
    rw [hnone]
    rfl
  | some l => rfl

/-- A change of the lane's queue that keeps totes, allocations and order. -/
theorem State.setLaneQueue_storeKept {q : List LaneEntry} (htotes : q.map (·.tote) = s.lane.queue.map (·.tote))
    (hallocations : q.map (·.allocations) = s.lane.queue.map (·.allocations))
    (horder : inLaneOrder s.lane.queue → inLaneOrder q) (hs : s.storeKept) : (s.setLaneQueue q).storeKept := by
  obtain ⟨hroom, hnodup, hordered, hempty⟩ := State.laneSound_iff.mp hs.lane
  have hlength : q.length = s.lane.queue.length := by simpa using congrArg List.length htotes
  refine ⟨State.laneSound_iff.mpr ⟨?_, ?_, horder hordered, fun hl => ?_⟩, fun b i => ?_, hs.builds⟩
  · show q.length ≤ _
    rw [hlength]
    exact hroom
  · show (q.map (·.tote)).Nodup
    rw [htotes]
    exact hnodup
  · show q = []
    rw [← List.length_eq_zero_iff, hlength, hempty hl]
    rfl
  · have hgranted (es : List LaneEntry) : es.map (fun x => grantedOn b i x.allocations)
        = (es.map (·.allocations)).map (grantedOn b i) := by rw [List.map_map]; rfl
    have hsame : (s.setLaneQueue q).grantedTo b i = s.grantedTo b i := by
      rw [State.grantedTo_eq, State.grantedTo_eq, hgranted, hgranted, ← hallocations]
      rfl
    rw [hsame]
    exact hs.pins b i

end

/-! ## Steps -/

theorem storeKept_storeKeeps : StoreKeeps State.storeKept where
  settled h hs := h.storeKept hs
  items hn h hs := h.storeKept hn hs
  emptied hbd h hs := State.emptied_storeKept hbd h hs
  opened hb hp _ hs := State.evalBays_storeKept _ (State.opened_storeKept hb hp hs)
  arrived hs := State.setLaneQueue_storeKept (map_matchArrival _ _ (fun _ => rfl) _)
    (map_matchArrival _ _ (fun _ => rfl) _) (inLaneOrder_matchArrival _) hs
  staled q hs := by
    refine State.setLaneQueue_storeKept ?_ ?_ (fun horder => ?_) hs
    · rw [List.map_map]
      refine List.map_congr_left fun e _ => ?_
      dsimp only [Function.comp_apply]
      split <;> rfl
    · rw [List.map_map]
      refine List.map_congr_left fun e _ => ?_
      dsimp only [Function.comp_apply]
      split <;> rfl
    · have hbench (e : LaneEntry) : (if q e = true then { e with stale := true } else e).isAtBench = e.isAtBench := by
        split <;> rfl
      refine List.pairwise_map.mpr (horder.imp fun {x y} h => ?_)
      rwa [hbench, hbench]
  left h k hs := k.storeKept (h.storeKept hs)
  joined h k hs := k.storeKept (h.storeKept hs)

theorem State.storeKept_of_empty {s : State} (hb : s.bays = emptyBays) (hl : s.lane = Lane.cleared) : s.storeKept :=
  (State.storeSound_iff.mp (State.storeSound_of_empty hb hl)).2

/-- The settings load finds the lane empty, so a new lane capacity spoils nothing (R118, R163). -/
theorem State.endLoad_storeKept {s : State} (r : Settings × LoadOutcome) (hs : s.storeKept) : (s.endLoad r).storeKept := by
  obtain h | ⟨-, hm, h⟩ := s.endLoad_cases r
  · rwa [h]
  · have hframe := s.endLoad_changedOnly r
    have hlane : (s.endLoad r).lane = s.lane := hframe .lane (by simp [loadBlocks])
    have hbays : (s.endLoad r).bays = s.bays := hframe .bays (by simp [loadBlocks])
    have hitems : (s.endLoad r).items = s.items := hframe .items (by simp [loadBlocks])
    have hempty : (s.endLoad r).lane.queue = [] := by
      rw [hlane]
      exact (State.laneSound_iff.mp hs.lane).2.2.2 hm
    refine ⟨State.laneSound_iff.mpr ?_, fun b i => ?_, fun b bd hbd => ?_⟩
    · rw [hempty]
      exact ⟨Nat.zero_le _, List.nodup_nil, List.Pairwise.nil, fun _ => rfl⟩
    · rw [State.pinnedOn, State.grantedTo, hlane, State.linesOf_of_bays hbays]
      exact hs.pins b i
    · rw [State.bay, hbays] at hbd
      rw [hitems]
      exact hs.builds b bd hbd

/-- Every line names items that the table holds (R2), whatever the mode. -/
theorem linesNamed_opKeeps : OpKeeps State.linesNamed where
  setItems h hs := h.linesNamed hs
  setBays h hs := h.linesNamed hs
  setPort _ hs := hs
  setDev _ hs := hs
  setDraws _ hs := hs
  setClock _ hs := hs
  writing _ _ hs := hs
  setMode _ _ _ _ _ hs := hs
  counted _ _ hs := hs
  marked _ _ _ _ hs := hs
  joined _ _ _ hs := hs
  emptied _ hs := hs
  seen _ hs := hs
  laneKept _ _ hs := hs
  laneJoined _ _ hs := hs
  mapped _ hs := hs
  put _ hs := hs
  decoded _ _ hs := hs
  readsCounted _ _ _ hs := hs
  delivered {s p sequence payload} _ _ _ _ _ hs := by
    have hframe := s.deliver_changedOnly p sequence payload
    exact State.linesNamed_of_same (hframe .items (by simp)) (hframe .bays (by simp)) hs

theorem exec_linesNamed {c : Instr} {s t : State} (h : exec c s = .next t) (hs : s.linesNamed) : t.linesNamed := by
  cases hc : startsOrSends c with
  | false => exact linesNamed_opKeeps.exec hc h hs
  | true =>
    cases c, hc using startsOrSends_cases with
    | hardReset straps => cases h; exact State.linesNamed_of_emptyBays rfl
    | restart straps tx =>
      cases h
      exact whileUp_keeps_of (State.restartRequest_keeps linesNamed_opKeeps.toPort
        (fun _ _ => State.linesNamed_of_emptyBays rfl) tx hs) hs
    | _ =>
      have hframe := exec_changedOnly h
      exact State.linesNamed_of_same (hframe .items (by simp [fieldsWritten]))
        (hframe .bays (by simp [fieldsWritten])) hs

theorem exec_storeKept {c : Instr} {s t : State} (h : exec c s = .next t) (hn : s.linesNamed) (hs : s.storeKept) :
    t.storeKept := by
  cases c with
  | hardReset straps => cases h; exact State.storeKept_of_empty rfl rfl
  | restart straps tx =>
    cases h
    exact whileUp_keeps_of (State.restartRequest_keeps storeKept_storeKeeps.toPort
      (fun _ _ => State.storeKept_of_empty rfl rfl) tx hs) hs
  | settingsLoad record => cases h; exact whileUp_keeps_of (State.endLoad_storeKept _ hs) hs
  | settingsLoadTimeout => cases h; exact whileUp_keeps_of (State.endLoad_storeKept _ hs) hs
  | _ => exact storeKept_storeKeeps.exec h (by simp) (by simp) (by simp) (by simp) hn hs

/-- Settles O57: the pins follow the lane's grants, placed units count as they did when ordered, and a trial switches only
to a candidate that fits. -/
theorem stepKeepsTheBuildsPromise : Obligations.StepKeepsTheBuildsPromise := by
  intro s t hs h
  refine State.storeSound_iff.mpr (step_keeps (P := fun u => u.linesNamed ∧ u.storeKept) (fun _ _ hu => ⟨hu.1, ?_⟩)
    (fun _ _ _ he hu => ⟨exec_linesNamed he hu.1, exec_storeKept he hu.1 hu.2⟩) h (State.storeSound_iff.mp hs))
  exact ⟨hu.2.lane, hu.2.pins, hu.2.builds⟩

end Sys2Proof.Machine
